-- ==== Sys2Proof/Word.lean ====
section
/-! DEFINITION. The widths of the block's words: bytes on the wire, 16-bit coordinates, 32-bit host registers (spec R21, R41, R56). -/

namespace Sys2Proof

/-- One byte: a wire byte, the OP or SUB field of a command word. -/
abbrev Byte := BitVec 8

/-- A 16-bit unsigned field: a coordinate, an offset, half of an argument register. -/
abbrev Half := BitVec 16

/-- A host register and a host access (R41, R80). -/
abbrev Word := BitVec 32

end Sys2Proof
end

