-- ==== Sys2Proof/Syntax.lean ====
section
/-! DEFINITION. The command words as syntax: one constructor for each row of spec/opcode_table.json (R123). -/

namespace Sys2Proof

/-- An operation the host can start by writing its command word to CMD (R123).
Only the operand the command word itself carries (its SUB field, R121) is part of the syntax:
every other operand is read from the argument registers when the word is accepted (R122). -/
inductive Instr where
  /-- HARD_RESET (R150). -/
  | hardReset
  /-- INIT (R153); `sub` is the SUB byte, whose low two bits are the orientation code. -/
  | init (sub : Byte)
  /-- SET_ORIENTATION (R156); `sub` as for INIT. -/
  | setOrientation (sub : Byte)
  /-- SEND_CMD (R157); `op` is the controller opcode to send. -/
  | sendCmd (op : Byte)
  /-- DELAY (R159). -/
  | delay
  /-- SET_WINDOW (R187). -/
  | setWindow
  /-- SET_PIXEL (R190). -/
  | setPixel
  /-- SET_PIXELS (R191). -/
  | setPixels
  /-- BLIT (R193). -/
  | blit
  /-- END_STREAM (R195). -/
  | endStream
  /-- DRAW_RECT (R220). -/
  | drawRect
  /-- DRAW_HLINE (R221). -/
  | drawHline
  /-- DRAW_VLINE (R222). -/
  | drawVline
  /-- DRAW_LINE (R223). -/
  | drawLine
  /-- DRAW_CIRCLE (R235). -/
  | drawCircle
  /-- FILL_CIRCLE (R243). -/
  | fillCircle
  /-- DRAW_GLYPH (R247); `ch` is the character code. -/
  | drawGlyph (ch : Byte)
  deriving DecidableEq, Repr

end Sys2Proof
end

