-- ==== Sys2Proof/WellFormed.lean ====
section
/-! DEFINITION. Which instructions have a legal command word (R121, R124). -/

namespace Sys2Proof

/-- INIT and SET_ORIENTATION need SUB[7:2] = 0; SEND_CMD and DRAW_GLYPH take any SUB; the others carry none (R121). -/
def Instr.wf : Instr → Bool
  | .hardReset => true
  | .init sub => sub.extractLsb' 2 6 == 0
  | .setOrientation sub => sub.extractLsb' 2 6 == 0
  | .sendCmd _ => true
  | .delay => true
  | .setWindow => true
  | .setPixel => true
  | .setPixels => true
  | .blit => true
  | .endStream => true
  | .drawRect => true
  | .drawHline => true
  | .drawVline => true
  | .drawLine => true
  | .drawCircle => true
  | .fillCircle => true
  | .drawGlyph _ => true

end Sys2Proof
end

