-- ==== Sys2Proof/Decode.lean ====
section
/-! DEFINITION. The command word (R120 to R125): the decoder, total on every 32-bit word, then the encoder and the opcode table's masks. -/

namespace Sys2Proof

/-! The OP values of R123. -/

def opcHardReset : Byte := 0x01
def opcInit : Byte := 0x02
def opcSetOrientation : Byte := 0x03
def opcSendCmd : Byte := 0x04
def opcDelay : Byte := 0x05
def opcSetWindow : Byte := 0x10
def opcSetPixel : Byte := 0x11
def opcSetPixels : Byte := 0x12
def opcBlit : Byte := 0x13
def opcEndStream : Byte := 0x1F
def opcDrawRect : Byte := 0x20
def opcDrawHline : Byte := 0x21
def opcDrawVline : Byte := 0x22
def opcDrawLine : Byte := 0x23
def opcDrawCircle : Byte := 0x24
def opcFillCircle : Byte := 0x25
def opcDrawGlyph : Byte := 0x26

/-- `OP = w[7:0]` (R120). -/
def wordOp (w : Word) : Byte := w.extractLsb' 0 8

/-- `SUB = w[15:8]` (R120). -/
def wordSub (w : Word) : Byte := w.extractLsb' 8 8

/-- `RSV = w[31:16]` (R120). -/
def wordRsv (w : Word) : Half := w.extractLsb' 16 16

/-- The operation an OP value names, with the operand SUB would give it (R121, R123); `none` on a reserved OP (R125). -/
def instrOf (op sub : Byte) : Option Instr :=
  if op = opcHardReset then some .hardReset
  else if op = opcInit then some (.init sub)
  else if op = opcSetOrientation then some (.setOrientation sub)
  else if op = opcSendCmd then some (.sendCmd sub)
  else if op = opcDelay then some .delay
  else if op = opcSetWindow then some .setWindow
  else if op = opcSetPixel then some .setPixel
  else if op = opcSetPixels then some .setPixels
  else if op = opcBlit then some .blit
  else if op = opcEndStream then some .endStream
  else if op = opcDrawRect then some .drawRect
  else if op = opcDrawHline then some .drawHline
  else if op = opcDrawVline then some .drawVline
  else if op = opcDrawLine then some .drawLine
  else if op = opcDrawCircle then some .drawCircle
  else if op = opcFillCircle then some .fillCircle
  else if op = opcDrawGlyph then some (.drawGlyph sub)
  else none

/-- The SUB field of an instruction's word (R121): 0 where it carries nothing. -/
def instrSub : Instr → Byte
  | .hardReset => 0
  | .init sub => sub
  | .setOrientation sub => sub
  | .sendCmd op => op
  | .delay => 0
  | .setWindow => 0
  | .setPixel => 0
  | .setPixels => 0
  | .blit => 0
  | .endStream => 0
  | .drawRect => 0
  | .drawHline => 0
  | .drawVline => 0
  | .drawLine => 0
  | .drawCircle => 0
  | .fillCircle => 0
  | .drawGlyph ch => ch

/-- The OP field of an instruction's word (R123). -/
def instrOp : Instr → Byte
  | .hardReset => opcHardReset
  | .init _ => opcInit
  | .setOrientation _ => opcSetOrientation
  | .sendCmd _ => opcSendCmd
  | .delay => opcDelay
  | .setWindow => opcSetWindow
  | .setPixel => opcSetPixel
  | .setPixels => opcSetPixels
  | .blit => opcBlit
  | .endStream => opcEndStream
  | .drawRect => opcDrawRect
  | .drawHline => opcDrawHline
  | .drawVline => opcDrawVline
  | .drawLine => opcDrawLine
  | .drawCircle => opcDrawCircle
  | .fillCircle => opcFillCircle
  | .drawGlyph _ => opcDrawGlyph

/-- The instruction a command word stands for; `none` exactly when the word is not legal (R124, R125). -/
def decode (w : Word) : Option Instr :=
  if wordRsv w = 0 then
    match instrOf (wordOp w) (wordSub w) with
    | some i => if i.wf && instrSub i == wordSub w then some i else none
    | none => none
  else none

/-- The command word of an instruction (R120, R130): RSV, SUB, OP from the top. -/
def encode (i : Instr) : Word := (0 : Half) ++ instrSub i ++ instrOp i

/-- One row of spec/opcode_table.json: a word is the row's when `w & mask = pattern` (R124). -/
structure OpcodeRow where
  pattern : Word
  mask : Word
  deriving DecidableEq, Repr

/-- The `match` and `mask` columns of spec/opcode_table.json, in its order (R124). -/
def opcodeTable : List OpcodeRow :=
  [⟨0x00000001, 0xFFFFFFFF⟩, ⟨0x00000002, 0xFFFFFCFF⟩, ⟨0x00000003, 0xFFFFFCFF⟩, ⟨0x00000004, 0xFFFF00FF⟩,
   ⟨0x00000005, 0xFFFFFFFF⟩, ⟨0x00000010, 0xFFFFFFFF⟩, ⟨0x00000011, 0xFFFFFFFF⟩, ⟨0x00000012, 0xFFFFFFFF⟩,
   ⟨0x00000013, 0xFFFFFFFF⟩, ⟨0x0000001F, 0xFFFFFFFF⟩, ⟨0x00000020, 0xFFFFFFFF⟩, ⟨0x00000021, 0xFFFFFFFF⟩,
   ⟨0x00000022, 0xFFFFFFFF⟩, ⟨0x00000023, 0xFFFFFFFF⟩, ⟨0x00000024, 0xFFFFFFFF⟩, ⟨0x00000025, 0xFFFFFFFF⟩,
   ⟨0x00000026, 0xFFFF00FF⟩]

/-- The word a table number stands for. A command word is one whole 32-bit host access and has no byte order (R90),
so the number's bits are the word's bits; those above `nbits` are 0. -/
def tableWord (nbits w : Nat) : Word := BitVec.ofNat 32 (w % 2 ^ nbits)

/-- What the decoder reads from a word numbered as spec/opcode_table.json numbers it. -/
def decodeTableWord (nbits w : Nat) : Option Instr := decode (tableWord nbits w)

end Sys2Proof
end

