-- ==== Sys2Proof/Config.lean ====
section
/-! DEFINITION. The implementation parameters of 00_scope.md section 4 (R7 to R20), their defaults, and the values the spec leaves OPEN. -/

namespace Sys2Proof

/-- `P_COLOR_MODE` (R7): how many bytes a colour word has on the wire. -/
inductive ColorMode where
  | rgb565
  | rgb888Legacy
  deriving DecidableEq, Repr

/-- `P_TRANSPORT_VARIANT` (R13): which failures the transport may answer (R87). -/
inductive TransportVariant where
  | generic
  | spiDcPin
  deriving DecidableEq, Repr

/-- `P_LINE_ROUNDING` (R19): the rounding of DRAW_LINE's minor coordinate (R24). -/
inductive LineRounding where
  | nearest
  | truncate
  deriving DecidableEq, Repr

/-- One glyph of the external font table: the five column bytes of a character of a font (R20, R250). -/
structure Glyph where
  font : Byte
  ch : Byte
  col0 : Byte
  col1 : Byte
  col2 : Byte
  col3 : Byte
  col4 : Byte
  deriving DecidableEq, Repr

/-- The configuration of one block, fixed when the block is built but for the font table, which is the environment's (R6, R312).
Each field is the parameter of the rule it names. -/
structure Config where
  /-- `P_COLOR_MODE` (R7). -/
  colorMode : ColorMode
  /-- `P_BATCH_BYTES`, written `B` (R8): 1 to 65535. -/
  batchBytes : Nat
  /-- `P_WIDTH` (R9, OPEN). -/
  width : Half
  /-- `P_HEIGHT` (R9, OPEN). -/
  height : Half
  /-- `P_OFFSET_RESET_X` (R10). -/
  offsetResetX : Half
  /-- `P_OFFSET_RESET_Y` (R10). -/
  offsetResetY : Half
  /-- `P_OFFSET_WRITABLE` (R11). -/
  offsetWritable : Bool
  /-- `P_HAS_RESET_PIN` (R12). -/
  hasResetPin : Bool
  /-- `P_TRANSPORT_VARIANT` (R13). -/
  transport : TransportVariant
  /-- `P_OP_SWRESET` (R14). -/
  opSwreset : Byte
  /-- `P_OP_SLPOUT` (R14). -/
  opSlpout : Byte
  /-- `P_OP_NORON` (R14). -/
  opNoron : Byte
  /-- `P_OP_INVON` (R14). -/
  opInvon : Byte
  /-- `P_OP_DISPON` (R14). -/
  opDispon : Byte
  /-- `P_OP_CASET` (R14). -/
  opCaset : Byte
  /-- `P_OP_RASET` (R14). -/
  opRaset : Byte
  /-- `P_OP_RAMWR` (R14). -/
  opRamwr : Byte
  /-- `P_OP_MADCTL` (R14). -/
  opMadctl : Byte
  /-- `P_OP_COLMOD` (R14). -/
  opColmod : Byte
  /-- `P_COLMOD_PARAM` (R15). -/
  colmodParam : Byte
  /-- `P_ORIENT_BYTE[0]` (R16). -/
  orientByte0 : Byte
  /-- `P_ORIENT_BYTE[1]` (R16). -/
  orientByte1 : Byte
  /-- `P_ORIENT_BYTE[2]` (R16). -/
  orientByte2 : Byte
  /-- `P_ORIENT_BYTE[3]` (R16). -/
  orientByte3 : Byte
  /-- `P_INVERT_ON` (R17). -/
  invertOn : Bool
  /-- `P_T_RST`, microseconds (R18). -/
  tRst : Word
  /-- `P_T_SWRESET` (R18). -/
  tSwreset : Word
  /-- `P_T_SLPOUT` (R18). -/
  tSlpout : Word
  /-- `P_T_NORON` (R18). -/
  tNoron : Word
  /-- `P_T_DISPON` (R18). -/
  tDispon : Word
  /-- `P_LINE_ROUNDING` (R19). -/
  lineRounding : LineRounding
  /-- `P_FONT` (R20, OPEN): the font table as a list of glyphs; what the font port answers column reads from. -/
  font : List Glyph
  deriving DecidableEq, Repr

/-- The value of `P_WIDTH` in the state after reset: OPEN in the spec (R9), so without a body here. DESIGN CHOICE (log 3), safe. -/
opaque Config.openWidth : Half

/-- The value of `P_HEIGHT` in the state after reset: OPEN in the spec (R9), so without a body here. DESIGN CHOICE (log 3), safe. -/
opaque Config.openHeight : Half

/-- The font table in the state after reset: OPEN in the spec (R20), so without a body here. DESIGN CHOICE (log 3), safe. -/
opaque Config.openFont : List Glyph

/-- The parameters at the defaults R7 to R19 give, with R9's geometry and R20's font left open. -/
def Config.standard : Config where
  colorMode := .rgb565
  batchBytes := 128
  width := Config.openWidth
  height := Config.openHeight
  offsetResetX := 0
  offsetResetY := 0
  offsetWritable := true
  hasResetPin := true
  transport := .spiDcPin
  opSwreset := 0x01
  opSlpout := 0x11
  opNoron := 0x13
  opInvon := 0x21
  opDispon := 0x29
  opCaset := 0x2A
  opRaset := 0x2B
  opRamwr := 0x2C
  opMadctl := 0x36
  opColmod := 0x3A
  colmodParam := 0x05
  orientByte0 := 0x00
  orientByte1 := 0x60
  orientByte2 := 0xC0
  orientByte3 := 0xA0
  invertOn := true
  tRst := 10
  tSwreset := 150000
  tSlpout := 10000
  tNoron := 10000
  tDispon := 10000
  lineRounding := .nearest
  font := Config.openFont

/-- The bounds R8 and R18 put on the parameters. -/
def Config.valid (c : Config) : Bool :=
  decide (1 ≤ c.batchBytes) && decide (c.batchBytes ≤ 65535) &&
  decide (10 ≤ c.tRst.toNat) && decide (150000 ≤ c.tSwreset.toNat) &&
  decide (10000 ≤ c.tSlpout.toNat) && decide (10000 ≤ c.tNoron.toNat) && decide (10000 ≤ c.tDispon.toNat)

end Sys2Proof
end

