-- ==== Sys2Proof/Machine/State.lean ====
section
/-! DEFINITION. The machine's state as plain data: the host-visible registers, the session, the error state, the sequencer (R40 to R59),
the event history (R86), and the moves of the outside world the step consumes. -/

namespace Sys2Proof.Machine

/-- The session's two states (R57). -/
inductive Session where
  | uninit
  | ready
  deriving DecidableEq, Repr

/-- `seq.phase` (R56). -/
inductive Phase where
  /-- No operation. -/
  | idle
  /-- A transaction is owed or awaits its response. -/
  | run
  /-- A stream is open and the sequencer waits for a datum or END_STREAM. -/
  | wait
  deriving DecidableEq, Repr

/-- `seq.stream` (R56). -/
inductive StreamKind where
  | none
  | pixels
  | bytes
  deriving DecidableEq, Repr

/-- `seq.next` (R56): what the operation does when `seq.todo` is first exhausted. -/
inductive NextStep where
  /-- END. -/
  | finish
  /-- OPEN: open the operation's stream. -/
  | openStream
  deriving DecidableEq, Repr

/-- The error codes of R270; the reserved codes 8 to 15 have no constructor, since nothing ever writes them. -/
inductive ErrCode where
  | none
  | transport
  | resetPin
  | dcPin
  | invalidInput
  | notReady
  | illegalOp
  | streamShort
  deriving DecidableEq, Repr

/-- A transport transaction (R84). -/
inductive Txn where
  /-- `TCmd(b)`: one opcode byte in command mode. -/
  | cmd (b : Byte)
  /-- `TData(L)`: the bytes in order in data mode. -/
  | data (bytes : List Byte)
  /-- `TPin(level)`: drive the panel's reset line, `true` for 1. -/
  | pin (level : Bool)
  /-- `TDelay(us)`: wait at least that many microseconds. -/
  | delay (us : Word)
  deriving DecidableEq, Repr

/-- The mode of a byte on the wire (R86). -/
inductive WireMode where
  | cmd
  | data
  deriving DecidableEq, Repr

/-- One pair the panel controller receives (R86). -/
structure WirePair where
  mode : WireMode
  byte : Byte
  deriving DecidableEq, Repr

/-- The environment's response to a transaction (R87). -/
inductive Response where
  | ok
  | failTransport
  | failDc
  | failPin
  deriving DecidableEq, Repr

/-- One draw of the environment for the outstanding transaction: the response (R87) and, for a failure,
how many of its bytes reached the controller and, after FAIL_DC, with which modes (R88). -/
structure Answer where
  response : Response
  /-- The length of the delivered part of a failed transaction; more than it has counts as all of it. -/
  delivered : Nat
  /-- The modes of the bytes delivered by a FAIL_DC, in order; a byte past the list keeps its own mode. -/
  modes : List WireMode
  deriving DecidableEq, Repr

/-- One entry of the event history (R86): a transaction, its response, and the pairs it put on the wire. -/
structure Event where
  txn : Txn
  response : Response
  delivered : List WirePair
  deriving DecidableEq, Repr

/-- A transaction that block reset abandoned, and what it had delivered (R300, S5). -/
structure Abandoned where
  txn : Txn
  delivered : List WirePair
  deriving DecidableEq, Repr

/-- One move of the outside world. The step consumes the oldest pending one, so the list is the one total order of
host accesses, sequencer steps and responses (R83, R95); which comes first is the list's choice (R280(d)). -/
inductive Input where
  /-- The host reads `width` bytes at a byte offset of the register window (R80). -/
  | hostRead (width offset : Nat)
  /-- The host writes `width` bytes at a byte offset of the register window (R80). -/
  | hostWrite (width offset : Nat) (value : Word)
  /-- Another bus master accesses the block (R287). -/
  | otherMaster
  /-- The environment answers the outstanding transaction: with it the sequencer takes its step (R275). -/
  | answer (a : Answer)
  /-- The environment answers a transaction that block reset abandoned (R300). -/
  | lateAnswer (a : Answer)
  /-- The font port's table becomes `table` (R6, R312). `takeNew` draws, for each column a running DRAW_GLYPH
  has still to read, whether it takes the new byte (S6). -/
  | fontChange (table : List Glyph) (takeNew : List Bool)
  /-- The platform asserts the block's reset (R300), with the draw of what an outstanding transaction had delivered (R88). -/
  | blockReset (delivered : Nat) (modes : List WireMode)
  deriving DecidableEq, Repr

/-- The operands latched at accept (R56, R122). -/
structure Operands where
  x0 : Half
  y0 : Half
  x1 : Half
  y1 : Half
  aux : Word
  color : Word
  offx : Half
  offy : Half
  deriving DecidableEq, Repr

/-- The sequencer's hidden state `seq` (R56). -/
structure Seq where
  phase : Phase
  /-- The OP field of the operation being executed. -/
  op : Byte
  /-- Its SUB field. -/
  sub : Byte
  /-- `seq.x0` to `seq.offy`. -/
  args : Operands
  stream : StreamKind
  /-- The bytes a BYTES stream still expects. -/
  remaining : Word
  next : NextStep
  /-- The transfer buffer (R58). -/
  buf : List Byte
  /-- The transactions still owed, in order. -/
  todo : List Txn
  /-- The model's own: the five column bytes of the DRAW_GLYPH being executed; empty for every other operation. -/
  columns : List Byte
  deriving DecidableEq, Repr

/-- The whole state. CMD and DATA hold no value (R42, R55); STATUS, GEOM and ORIENT are computed from the fields below (Flags.lean). -/
structure State where
  /-- The parameters of this block (R7 to R20); only the font table can change, and only by the font port (R312). -/
  cfg : Config
  arg0 : Word
  arg1 : Word
  arg2 : Word
  color : Word
  offset : Word
  session : Session
  orient : BitVec 2
  err : ErrCode
  ovr : Bool
  seq : Seq
  /-- The event history, oldest first (R86). -/
  history : List Event
  /-- The model's own: the transactions that block resets abandoned, oldest first, with what each had delivered (R300). -/
  abandoned : List Abandoned
  /-- The model's own: what the host's reads returned, oldest first, each with its offset. -/
  reads : List (Nat × Word)
  /-- The model's own: the pending moves of the outside world, next one first. -/
  inputs : List Input
  deriving DecidableEq, Repr

/-- Why the machine stops. -/
inductive Fault where
  /-- Raised by the step when a transaction is outstanding and no move of the outside world is left: the environment never
  answers, the spec's stuck case (93_implementation_defined.md S8; R286). Safe: the model stops. -/
  | noAnswer
  deriving DecidableEq, Repr

/-- Why a step has no meaning. -/
inductive Refusal where
  /-- Raised by an arm of exec whose instruction has no meaning yet; names its mnemonic. Safe. No arm raises it. -/
  | notModelled (mnemonic : String)
  /-- Raised by a host access that is not 32 bits wide or not aligned, which the spec leaves undefined and asks a model to refuse
  (R80, S1). Safe. -/
  | undefinedAccess
  /-- Raised by a host access at an offset of 0x40 or more: the window has 64 bytes (R80), so it is not this block's. Safe. -/
  | outsideWindow
  /-- Raised by the access of a second bus master, which the spec puts outside itself and asks a model to refuse (R287, U2). Safe. -/
  | secondMaster
  /-- Raised by an answer that is not in the transaction's response set (R87): an environment that breaks R286. Safe. -/
  | responseOutsideSet
  deriving DecidableEq, Repr

/-! Named updates, one per field a step writes; their lemmas are in Laws/State.lean. -/

def State.setCfg (s : State) (v : Config) : State := { s with cfg := v }
def State.setArg0 (s : State) (v : Word) : State := { s with arg0 := v }
def State.setArg1 (s : State) (v : Word) : State := { s with arg1 := v }
def State.setArg2 (s : State) (v : Word) : State := { s with arg2 := v }
def State.setColor (s : State) (v : Word) : State := { s with color := v }
def State.setOffset (s : State) (v : Word) : State := { s with offset := v }
def State.setSession (s : State) (v : Session) : State := { s with session := v }
def State.setOrient (s : State) (v : BitVec 2) : State := { s with orient := v }
def State.setErr (s : State) (v : ErrCode) : State := { s with err := v }
def State.setOvr (s : State) (v : Bool) : State := { s with ovr := v }
def State.setSeq (s : State) (v : Seq) : State := { s with seq := v }
def State.setHistory (s : State) (v : List Event) : State := { s with history := v }
def State.setAbandoned (s : State) (v : List Abandoned) : State := { s with abandoned := v }
def State.setReads (s : State) (v : List (Nat × Word)) : State := { s with reads := v }
def State.setInputs (s : State) (v : List Input) : State := { s with inputs := v }

/-- The latched operands after reset (R60): 0. -/
def Operands.zero : Operands := ⟨0, 0, 0, 0, 0, 0, 0, 0⟩

/-- The sequencer after reset (R60). -/
def Seq.reset : Seq where
  phase := .idle
  op := 0
  sub := 0
  args := Operands.zero
  stream := .none
  remaining := 0
  next := .finish
  buf := []
  todo := []
  columns := []

/-- The state of a block with parameters `c` right after reset (R60, R300): the event history is empty (R303). -/
def State.resetWith (c : Config) : State where
  cfg := c
  arg0 := 0
  arg1 := 0
  arg2 := 0
  color := 0
  offset := c.offsetResetY ++ c.offsetResetX
  session := .uninit
  orient := 0
  err := .none
  ovr := false
  seq := Seq.reset
  history := []
  abandoned := []
  reads := []
  inputs := []

/-- The machine right after reset, with the spec's default parameters. -/
def State.reset : State := State.resetWith Config.standard

end Sys2Proof.Machine
end

