-- ==== Sys2Proof/Machine/Operands.lean ====
section
/-! DEFINITION. Operands: the fields of the argument registers (R43 to R46, R52), the latch (R122), and the checks on coordinates (R180, R181). -/

namespace Sys2Proof.Machine

/-- `v[15:0]` (R43): the X half of ARG0, ARG1 and OFFSET. -/
def lowHalf (w : Word) : Half := w.extractLsb' 0 16

/-- `v[31:16]` (R43): the Y half of ARG0, ARG1 and OFFSET. -/
def highHalf (w : Word) : Half := w.extractLsb' 16 16

/-- `v[7:0]`: a DATA byte (R55), the font id (R45). -/
def lowByte (w : Word) : Byte := w.extractLsb' 0 8

/-- What an operation latches at accept: the register values of that moment (R122, R272 step 6). -/
def State.operands (s : State) : Operands where
  x0 := lowHalf s.arg0
  y0 := highHalf s.arg0
  x1 := lowHalf s.arg1
  y1 := highHalf s.arg1
  aux := s.arg2
  color := s.color
  offx := lowHalf s.offset
  offy := highHalf s.offset

/-- `N = aux[15:0]`, SEND_CMD's parameter count (R157). -/
def Operands.count (a : Operands) : Half := lowHalf a.aux

/-- `r = aux[15:0]`, the radius (R235). -/
def Operands.radius (a : Operands) : Nat := (lowHalf a.aux).toNat

/-- `font = aux[7:0]` (R247). -/
def Operands.fontId (a : Operands) : Byte := lowByte a.aux

/-- `RECT_OK` (R180). -/
def rectOk (x0 y0 x1 y1 : Half) : Bool := decide (x0.toNat ≤ x1.toNat) && decide (y0.toNat ≤ y1.toNat)

/-- `DEV_OK` (R181): the exact device coordinate fits 16 bits. -/
def devOk (v : Nat) : Bool := decide (v ≤ 0xFFFF)

/-- `DEV_OK(x + offx)` for a logical column (R181). -/
def colOk (a : Operands) (x : Nat) : Bool := devOk (x + a.offx.toNat)

/-- `DEV_OK(y + offy)` for a logical row (R181). -/
def rowOk (a : Operands) (y : Nat) : Bool := devOk (y + a.offy.toNat)

/-- The corner checks of SET_WINDOW, SET_PIXELS and DRAW_RECT (R187, R191, R220). -/
def cornersOk (a : Operands) : Bool :=
  rectOk a.x0 a.y0 a.x1 a.y1 && colOk a a.x1.toNat && rowOk a a.y1.toNat

/-- BLIT's checks (R193, R194), in exact arithmetic. -/
def blitOk (a : Operands) : Bool :=
  decide (a.aux.toNat = a.x1.toNat * a.y1.toNat * 2) && decide (1 ≤ a.x1.toNat) && decide (1 ≤ a.y1.toNat) &&
  colOk a (a.x0.toNat + a.x1.toNat - 1) && rowOk a (a.y0.toNat + a.y1.toNat - 1)

/-- DRAW_LINE's checks (R224). -/
def lineOk (a : Operands) : Bool :=
  colOk a (max a.x0.toNat a.x1.toNat) && rowOk a (max a.y0.toNat a.y1.toNat)

/-- The circle checks (R236). -/
def circleOk (a : Operands) : Bool :=
  decide (a.radius ≤ a.x0.toNat) && decide (a.radius ≤ a.y0.toNat) &&
  colOk a (a.x0.toNat + a.radius) && rowOk a (a.y0.toNat + a.radius)

/-- The glyph checks (R248), on the whole cell. -/
def glyphOk (a : Operands) : Bool :=
  decide (4 ≤ a.x0.toNat) && decide (6 ≤ a.y0.toNat) && colOk a a.x0.toNat && rowOk a a.y0.toNat

end Sys2Proof.Machine
end

