-- ==== Sys2Proof/Machine/Flags.lean ====
section
/-! DEFINITION. The registers computed from the state, STATUS, GEOM and ORIENT (R48, R53, R54), the error codes (R270, R271) and STATUS's write-one-to-clear bit. -/

namespace Sys2Proof.Machine

/-- The 4-bit code of an error (R270). -/
def ErrCode.code : ErrCode → BitVec 4
  | .none => 0
  | .transport => 1
  | .resetPin => 2
  | .dcPin => 3
  | .invalidInput => 4
  | .notReady => 5
  | .illegalOp => 6
  | .streamShort => 7

/-- STATUS.BUSY: 1 exactly when the phase is RUN (R48). -/
def State.busy (s : State) : Bool := s.seq.phase == .run

/-- STATUS.READY: 1 exactly when the session is READY (R48). -/
def State.isReady (s : State) : Bool := s.session == .ready

/-- STATUS.STREAM: 1 exactly when a stream is open (R48). -/
def State.streaming (s : State) : Bool := s.seq.stream != .none

/-- The value a read of STATUS returns (R48): ERR in 11:8, OVR, STREAM, READY, BUSY in 3:0, the rest 0. -/
def State.status (s : State) : Word :=
  (0 : BitVec 20) ++ s.err.code ++ (0 : BitVec 4) ++
    BitVec.ofBool s.ovr ++ BitVec.ofBool s.streaming ++ BitVec.ofBool s.isReady ++ BitVec.ofBool s.busy

/-- A write of STATUS clears `ovr` when bit 3 is 1 and does nothing else (R48). -/
def State.writeStatus (s : State) (w : Word) : State := if w.getLsbD 3 then s.setOvr false else s

/-- `P_ORIENT_BYTE[o]` (R16). -/
def orientByte (c : Config) (o : BitVec 2) : Byte :=
  if o = 0 then c.orientByte0 else if o = 1 then c.orientByte1 else if o = 2 then c.orientByte2 else c.orientByte3

/-- The value a read of ORIENT returns (R54): MODE_BYTE in 15:8, CODE in 1:0, the rest 0. -/
def State.orientWord (s : State) : Word := (0 : Half) ++ orientByte s.cfg s.orient ++ (0 : BitVec 6) ++ s.orient

/-- The value a read of GEOM returns (R53). -/
def State.geomWord (s : State) : Word := s.cfg.height ++ s.cfg.width

/-- The error code of a failure response (R271); `ok` is no failure and maps to NONE. -/
def Response.errCode : Response → ErrCode
  | .ok => .none
  | .failTransport => .transport
  | .failDc => .dcPin
  | .failPin => .resetPin

end Sys2Proof.Machine
end

