-- ==== Sys2Proof/Machine/Wire.lean ====
section
/-! DEFINITION. What goes on the wire: byte order (R25, R89), window framing (R182), chunking (R184), fills, PLOT (R183, R189), response sets and delivery (R86 to R88). -/

namespace Sys2Proof.Machine

/-- `CB`, the bytes of a colour word (R7). -/
def bytesPerColor (c : Config) : Nat :=
  match c.colorMode with
  | .rgb565 => 2
  | .rgb888Legacy => 3

/-- `be16(v)` (R25): most significant byte first, for `v` of at most 16 bits. -/
def be16 (v : Nat) : List Byte := [BitVec.ofNat 8 (v / 256), BitVec.ofNat 8 v]

/-- `PIX(c)` (R25, R183): the colour word's bytes, most significant first. -/
def pix (c : Config) (color : Word) : List Byte :=
  match c.colorMode with
  | .rgb565 => [color.extractLsb' 8 8, color.extractLsb' 0 8]
  | .rgb888Legacy => [color.extractLsb' 16 8, color.extractLsb' 8 8, color.extractLsb' 0 8]

/-- `WIN(XS, YS, XE, YE)` in device coordinates (R182): the column command first. -/
def win (c : Config) (xs ys xe ye : Nat) : List Txn :=
  [.cmd c.opCaset, .data (be16 xs ++ be16 xe), .cmd c.opRaset, .data (be16 ys ++ be16 ye)]

/-- Cuts full chunks of `b` bytes off the front, at most `fuel` of them: the chunks, and what is left (R184).
With `fuel` at least the list's length nothing more can be cut. -/
def cutFull (b : Nat) : Nat → List Byte → List Txn × List Byte
  | 0, l => ([], l)
  | fuel + 1, l =>
    if 1 ≤ b ∧ b ≤ l.length then
      (.data (l.take b) :: (cutFull b fuel (l.drop b)).1, (cutFull b fuel (l.drop b)).2)
    else ([], l)

/-- The chunks the transfer buffer sends while it holds `B` or more bytes (R58, R184). -/
def fullChunks (c : Config) (l : List Byte) : List Txn := (cutFull c.batchBytes l.length l).1

/-- The bytes that stay in the buffer after those chunks. -/
def leftOver (c : Config) (l : List Byte) : List Byte := (cutFull c.batchBytes l.length l).2

/-- The one last chunk with the remaining bytes, if any (R58, R195). -/
def lastChunk (l : List Byte) : List Txn := if l.isEmpty then [] else [.data l]

/-- `CHUNKS(L)` (R184). -/
def chunks (c : Config) (l : List Byte) : List Txn := fullChunks c l ++ lastChunk (leftOver c l)

/-- `FILL(c, n)` (R183). -/
def fill (c : Config) (color : Word) (n : Nat) : List Txn := chunks c (List.replicate n (pix c color)).flatten

/-- A window on the logical rectangle, in device coordinates (R181, R182). -/
def winAt (c : Config) (a : Operands) (x0 y0 x1 y1 : Nat) : List Txn :=
  win c (x0 + a.offx.toNat) (y0 + a.offy.toNat) (x1 + a.offx.toNat) (y1 + a.offy.toNat)

/-- A window and the memory-write command: the head of every operation that writes pixels (R188). -/
def openRect (c : Config) (a : Operands) (x0 y0 x1 y1 : Nat) : List Txn :=
  winAt c a x0 y0 x1 y1 ++ [.cmd c.opRamwr]

/-- A filled logical rectangle (R220): window, memory-write, one colour word per pixel. -/
def rect (c : Config) (a : Operands) (x0 y0 x1 y1 : Nat) : List Txn :=
  openRect c a x0 y0 x1 y1 ++ fill c a.color ((x1 - x0 + 1) * (y1 - y0 + 1))

/-- `PLOT(x, y, color)` (R189). -/
def plot (c : Config) (a : Operands) (x y : Nat) : List Txn :=
  openRect c a x y x y ++ fill c a.color 1

/-- A sequence of single-pixel emissions (R230, R239, R249). -/
def plotAll (c : Config) (a : Operands) (points : List (Nat × Nat)) : List Txn :=
  points.flatMap fun p => plot c a p.1 p.2

/-- The bytes a transaction carries, with their modes (R86). -/
def Txn.pairs : Txn → List WirePair
  | .cmd b => [⟨.cmd, b⟩]
  | .data l => l.map fun b => ⟨.data, b⟩
  | .pin _ => []
  | .delay _ => []

/-- The data bytes a transaction carries. -/
def Txn.payload : Txn → List Byte
  | .cmd _ => []
  | .data l => l
  | .pin _ => []
  | .delay _ => []

/-- Whether a response is in the transaction's set (R87). -/
def responseAllowed (c : Config) : Txn → Response → Bool
  | _, .ok => true
  | .cmd _, .failTransport => true
  | .data _, .failTransport => true
  | .cmd _, .failDc => c.transport == .spiDcPin
  | .data _, .failDc => c.transport == .spiDcPin
  | .pin _, .failPin => true
  | .cmd _, .failPin => false
  | .data _, .failPin => false
  | .pin _, .failTransport => false
  | .pin _, .failDc => false
  | .delay _, .failTransport => false
  | .delay _, .failDc => false
  | .delay _, .failPin => false

/-- Gives the delivered pairs the modes a FAIL_DC drew for them (R88). -/
def drawModes : List WirePair → List WireMode → List WirePair
  | [], _ => []
  | p :: ps, [] => p :: ps
  | p :: ps, m :: ms => ⟨m, p.byte⟩ :: drawModes ps ms

/-- What a transaction puts on the wire under an answer: all of it when OK (R86), a drawn part when failed,
with drawn modes after FAIL_DC (R88). -/
def delivery (t : Txn) (a : Answer) : List WirePair :=
  match a.response with
  | .ok => t.pairs
  | .failTransport => t.pairs.take a.delivered
  | .failDc => drawModes (t.pairs.take a.delivered) a.modes
  | .failPin => []

/-- The history entry of a transaction and its answer (R86). -/
def eventOf (t : Txn) (a : Answer) : Event := ⟨t, a.response, delivery t a⟩

/-- The wire: what the controller has received, in order (R86). -/
def wireOf (h : List Event) : List WirePair := h.flatMap Event.delivered

/-- The wire of a state. -/
def State.wire (s : State) : List WirePair := wireOf s.history

end Sys2Proof.Machine
end

