-- ==== Sys2Proof/Machine/Geometry.lean ====
section
/-! DEFINITION. The rasterizer's integer geometry: isqrt and RND (R23, R24), lines, circles, discs and glyphs (R225 to R250), and the incremental reference forms (R232, R240). -/

namespace Sys2Proof.Machine

/-- Decides the `k` low bits of the root, from the top, on `y` found so far. -/
def isqrtBits : Nat → Nat → Nat → Nat
  | 0, _, y => y
  | k + 1, n, y => isqrtBits k n (if (y + 2 ^ k) * (y + 2 ^ k) ≤ n then y + 2 ^ k else y)

/-- `isqrt(n)` (R23): the largest `y` with `y * y <= n`. -/
def isqrt (n : Nat) : Nat := isqrtBits (n.log2 / 2 + 1) n 0

/-- `RND(n, d)` (R24): the rounding `P_LINE_ROUNDING` selects, for `d > 0`. -/
def rnd (m : LineRounding) (n d : Nat) : Nat :=
  match m with
  | .nearest => (2 * n + d) / (2 * d)
  | .truncate => n / d

/-- `|b - a|` (R227). -/
def absDiff (a b : Nat) : Nat := if a ≤ b then b - a else a - b

/-- `a + sign(b - a) * k` (R227, R228), for `k` at most `|b - a|`. -/
def toward (a b k : Nat) : Nat := if a ≤ b then a + k else a - k

/-- The pixels of a line in the general case: shallow (R228) when `ay < ax`, else steep (R229). -/
def linePixels (m : LineRounding) (x0 y0 x1 y1 : Nat) : List (Nat × Nat) :=
  if absDiff y0 y1 < absDiff x0 x1 then
    (List.range (absDiff x0 x1 + 1)).map fun k =>
      (toward x0 x1 k, toward y0 y1 (rnd m (absDiff y0 y1 * k) (absDiff x0 x1)))
  else
    (List.range (absDiff y0 y1 + 1)).map fun k =>
      (toward x0 x1 (rnd m (absDiff x0 x1 * k) (absDiff y0 y1)), toward y0 y1 k)

/-- The incremental form's minor offsets (R232): `steps` plots from quotient `q` and error `e`. -/
def minorOffsets (m : LineRounding) (minor major : Nat) : Nat → Nat → Nat → List Nat
  | 0, _, _ => []
  | steps + 1, q, e =>
    (if m = .nearest ∧ major ≤ 2 * e then q + 1 else q) ::
      (if major ≤ e + minor then minorOffsets m minor major steps (q + 1) (e + minor - major)
       else minorOffsets m minor major steps q (e + minor))

/-- The pixels of a line in the general case by the stepper of R232. -/
def linePixelsStepped (m : LineRounding) (x0 y0 x1 y1 : Nat) : List (Nat × Nat) :=
  if absDiff y0 y1 < absDiff x0 x1 then
    List.zipWith (fun k o => (toward x0 x1 k, toward y0 y1 o)) (List.range (absDiff x0 x1 + 1))
      (minorOffsets m (absDiff y0 y1) (absDiff x0 x1) (absDiff x0 x1 + 1) 0 0)
  else
    List.zipWith (fun k o => (toward x0 x1 o, toward y0 y1 k)) (List.range (absDiff y0 y1 + 1))
      (minorOffsets m (absDiff x0 x1) (absDiff y0 y1) (absDiff y0 y1 + 1) 0 0)

/-- DRAW_LINE's transactions by cases (R223): vertical (R225), horizontal (R226), general (R230). -/
def lineTxns (c : Config) (a : Operands) : List Txn :=
  if a.x0 = a.x1 then
    rect c a a.x0.toNat (min a.y0.toNat a.y1.toNat) a.x0.toNat (max a.y0.toNat a.y1.toNat)
  else if a.y0 = a.y1 then
    rect c a (min a.x0.toNat a.x1.toNat) a.y0.toNat (max a.x0.toNat a.x1.toNat) a.y0.toNat
  else
    plotAll c a (linePixels c.lineRounding a.x0.toNat a.y0.toNat a.x1.toNat a.y1.toNat)

/-- `XE(r)` (R237): `round(r / sqrt 2)` exactly. -/
def octantBound (r : Nat) : Nat := (isqrt (2 * r * r) + 1) / 2

/-- `y = isqrt(r*r - x*x)` (R238). -/
def chord (r x : Nat) : Nat := isqrt (r * r - x * x)

/-- The eight points for one `x` and its `y`, in order (R239). -/
def octantPoints (cx cy x y : Nat) : List (Nat × Nat) :=
  [(cx + x, cy + y), (cx - x, cy + y), (cx + x, cy - y), (cx - x, cy - y),
   (cx + y, cy + x), (cx - y, cy + x), (cx + y, cy - x), (cx - y, cy - x)]

/-- The `(x, y)` pairs of DRAW_CIRCLE's loop (R235). -/
def octantPairs (r : Nat) : List (Nat × Nat) := (List.range (octantBound r + 1)).map fun x => (x, chord r x)

/-- The points DRAW_CIRCLE plots, in order (R235, R239). -/
def circlePoints (cx cy r : Nat) : List (Nat × Nat) :=
  (octantPairs r).flatMap fun p => octantPoints cx cy p.1 p.2

/-- The stepper's inner loop (R240): the largest `y` at most the given one with `y * y <= lim`. -/
def lowerTo (lim : Nat) : Nat → Nat
  | 0 => 0
  | y + 1 => if (y + 1) * (y + 1) ≤ lim then y + 1 else lowerTo lim y

/-- The stepper of R240 from `x` and `y`, at most `fuel` pairs. -/
def octantSteps (r : Nat) : Nat → Nat → Nat → List (Nat × Nat)
  | 0, _, _ => []
  | fuel + 1, x, y =>
    (x, lowerTo (r * r - x * x) y) ::
      (if (2 * (x + 1) - 1) * (2 * (x + 1) - 1) > 2 * r * r then []
       else octantSteps r fuel (x + 1) (lowerTo (r * r - x * x) y))

/-- The `(x, y)` pairs of DRAW_CIRCLE by the stepper of R240. -/
def octantPairsStepped (r : Nat) : List (Nat × Nat) := octantSteps r (r + 2) 0 r

/-- DRAW_CIRCLE's transactions (R235). -/
def circleTxns (c : Config) (a : Operands) : List Txn :=
  plotAll c a (circlePoints a.x0.toNat a.y0.toNat a.radius)

/-- The columns FILL_CIRCLE draws, each as (column, first row, last row), in order (R243). -/
def discColumns (cx cy r : Nat) : List (Nat × Nat × Nat) :=
  (List.range r).flatMap fun x => [(cx + x, cy - chord r x, cy + chord r x), (cx - x, cy - chord r x, cy + chord r x)]

/-- FILL_CIRCLE's transactions (R243): a DRAW_VLINE per column. -/
def discTxns (c : Config) (a : Operands) : List Txn :=
  (discColumns a.x0.toNat a.y0.toNat a.radius).flatMap fun v => rect c a v.1 v.2.1 v.1 v.2.2

/-- Column `col` of a glyph (R250). -/
def Glyph.column (g : Glyph) (col : Nat) : Byte :=
  if col = 0 then g.col0 else if col = 1 then g.col1 else if col = 2 then g.col2
  else if col = 3 then g.col3 else g.col4

/-- `FontColumn(font, ch, col)` (R20): the first entry of the table for the glyph; 0 where it has none. -/
def fontColumn (c : Config) (font ch : Byte) (col : Nat) : Byte :=
  match c.font.find? (fun g => g.font == font && g.ch == ch) with
  | some g => Glyph.column g col
  | none => 0

/-- The five column bytes of a glyph (R249). -/
def glyphColumns (c : Config) (font ch : Byte) : List Byte := (List.range 5).map (fontColumn c font ch)

/-- Column `col` of five column bytes. -/
def columnAt (cols : List Byte) (col : Nat) : Byte := cols[col]?.getD 0

/-- The cells of one column whose bit is set, as (column, row), rows ascending (R249); bit 7 is ignored (R247). -/
def columnCells (cols : List Byte) (col : Nat) : List (Nat × Nat) :=
  ((List.range 7).filter fun row => (columnAt cols col).getLsbD row).map fun row => (col, row)

/-- The cells whose bit is set: columns outside, rows inside (R249). -/
def glyphCells (cols : List Byte) : List (Nat × Nat) := (List.range 5).flatMap (columnCells cols)

/-- The points DRAW_GLYPH plots (R249): left and up from the anchor. -/
def glyphPoints (cols : List Byte) (x0 y0 : Nat) : List (Nat × Nat) :=
  (glyphCells cols).map fun p => (x0 - p.1, y0 - p.2)

/-- DRAW_GLYPH's transactions for its five column bytes (R249). -/
def glyphTxns (c : Config) (a : Operands) (cols : List Byte) : List Txn :=
  plotAll c a (glyphPoints cols a.x0.toNat a.y0.toNat)

end Sys2Proof.Machine
end

