-- ==== Sys2Proof/Machine/Ops.lean ====
section
/-! DEFINITION. The shared operations: dropping, rejecting and accepting a command word (R272 to R274), ending and failing an operation (R275, R276),
the stream's data (R186, R195, R196), the sequencer's step (R275), a change of the font table (R312), and block reset (R300). -/

namespace Sys2Proof.Machine

/-- What an operation's rule says of it, for the common evaluation of R272. -/
structure Operation where
  /-- `seq.op` (R123). -/
  op : Byte
  /-- `seq.sub` (R121). -/
  sub : Byte := 0
  /-- The word is legal (R124). -/
  legal : Bool := true
  /-- Valid in UNINIT (R283). -/
  inUninit : Bool := false
  /-- The rule's Checks on the current registers. -/
  checks : Bool := true
  /-- The "At accept" effect `session <- UNINIT` (HARD_RESET only). -/
  unready : Bool := false
  /-- The rule's Transactions. -/
  todo : List Txn
  /-- `seq.next` at accept: OPEN for SET_PIXELS, BLIT, and SEND_CMD with N > 0. -/
  next : NextStep := .finish
  /-- The column bytes DRAW_GLYPH starts from (R249). -/
  columns : List Byte := []
  deriving DecidableEq, Repr

/-- A dropped host write (R274): only `ovr` changes. -/
def drop (s : State) : State := s.setOvr true

/-- A rejected command word (R273): only `err` changes. The error's whole "entry" is this or `failOperation`:
nothing is saved and control goes nowhere (R281), and there is no return from it: the next starting word clears `err` (R282). -/
def reject (e : ErrCode) (s : State) : State := s.setErr e

/-- The sequencer at accept (R272 step 6): every operand latched, the transactions owed. -/
def acceptSeq (o : Operation) (s : State) : Seq :=
  { s.seq with phase := .run, op := o.op, sub := o.sub, args := s.operands, remaining := 0, next := o.next, buf := [],
               todo := o.todo, columns := o.columns }

/-- Accept (R272 steps 3 and 6). -/
def accept (o : Operation) (s : State) : State :=
  ((s.setSession (if o.unready then .uninit else s.session)).setErr .none).setSeq (acceptSeq o s)

/-- The "On completion" effect of the operation being executed: INIT's (R153) and SET_ORIENTATION's (R156); the others have none. -/
def completion (s : State) : State :=
  if s.seq.op = opcInit then (s.setSession .ready).setOrient (s.seq.sub.extractLsb' 0 2)
  else if s.seq.op = opcSetOrientation then s.setOrient (s.seq.sub.extractLsb' 0 2)
  else s

/-- The end of an operation (R275 case (d)). -/
def endOperation (s : State) : State :=
  ((completion s).setErr (if s.seq.remaining = 0 then .none else .streamShort)).setSeq
    { s.seq with buf := [], phase := .idle }

/-- Failure handling (R276): the one way an operation ends by a transaction's failure. -/
def failOperation (e : ErrCode) (s : State) : State :=
  (s.setErr e).setSeq { s.seq with todo := [], buf := [], stream := .none, phase := .idle }

/-- The evaluation of a starting command word (R272): the first step that applies decides (R280(a)). -/
def start (o : Operation) (s : State) : State :=
  if s.seq.phase = .run then drop s
  else if s.seq.stream ≠ .none then drop s
  else if o.legal = false then reject .illegalOp s
  else if s.session = .uninit ∧ o.inUninit = false then reject .notReady s
  else if o.checks = false then reject .invalidInput s
  else if o.todo.isEmpty then endOperation (accept o s)
  else accept o s

/-- An illegal command word (R124, R272 steps 1 to 3). -/
def startIllegal (s : State) : State :=
  if s.seq.phase = .run then drop s
  else if s.seq.stream ≠ .none then drop s
  else reject .illegalOp s

/-- Closing a stream (R195, R196): the buffer's bytes, if any, become the last chunk, and the sequencer runs. -/
def closeStream (q : Seq) : Seq :=
  { q with stream := .none, todo := q.todo ++ lastChunk q.buf, buf := [], phase := .run }

/-- After a stream is closed the operation ends within the same host access when nothing is owed (R275). -/
def endIfDrained (s : State) : State := if s.seq.todo.isEmpty then endOperation s else s

/-- A host write of END_STREAM's word (R195, R272 steps 1 and 2). It does not clear `err` (R49). -/
def takeEndStream (s : State) : State :=
  if s.seq.phase = .run then drop s
  else if s.seq.stream = .none then drop s
  else endIfDrained (s.setSeq (closeStream s.seq))

/-- The bytes a DATA write contributes (R55, R186). -/
def datumBytes (c : Config) (k : StreamKind) (w : Word) : List Byte :=
  match k with
  | .none => []
  | .pixels => pix c w
  | .bytes => [lowByte w]

/-- The sequencer after a datum (R186): the byte count, the full chunks, and the bytes left in the buffer. -/
def bufferDatum (c : Config) (q : Seq) (w : Word) : Seq :=
  { q with
    remaining := if q.stream = .bytes then q.remaining - 1 else q.remaining
    todo := q.todo ++ fullChunks c (q.buf ++ datumBytes c q.stream w)
    buf := leftOver c (q.buf ++ datumBytes c q.stream w) }

/-- A host write to DATA (R186). A BYTES stream closes by itself after its last byte (R196). -/
def takeDatum (w : Word) (s : State) : State :=
  if s.seq.phase = .run ∨ s.seq.stream = .none then drop s
  else if s.seq.stream = .bytes ∧ s.seq.remaining - 1 = 0 then
    endIfDrained (s.setSeq (closeStream (bufferDatum s.cfg s.seq w)))
  else if (bufferDatum s.cfg s.seq w).todo.isEmpty then s.setSeq (bufferDatum s.cfg s.seq w)
  else s.setSeq { bufferDatum s.cfg s.seq w with phase := .run }

/-- Opening the operation's stream (R275 case (c); R158, R191, R193). -/
def openStream (q : Seq) : Seq :=
  if q.op = opcSetPixels then { q with stream := .pixels, buf := [], next := .finish, phase := .wait }
  else if q.op = opcBlit then { q with stream := .bytes, remaining := q.args.aux, buf := [], next := .finish, phase := .wait }
  else { q with stream := .bytes, remaining := q.args.count.zeroExtend 32, next := .finish, phase := .wait }

/-- What the sequencer does at once when it owes nothing (R275 cases (b), (c), (d)). -/
def drained (s : State) : State :=
  if s.seq.stream ≠ .none then s.setSeq { s.seq with phase := .wait }
  else if s.seq.next = .openStream then s.setSeq (openStream s.seq)
  else endOperation s

/-- The outstanding transaction answered (R275 case (a)): recorded (R86), then the next one is owed, or the operation goes on, or it fails. -/
def answered (t : Txn) (rest : List Txn) (a : Answer) (s : State) : State :=
  if a.response = .ok then
    if rest.isEmpty then drained ((s.setHistory (s.history ++ [eventOf t a])).setSeq { s.seq with todo := rest })
    else (s.setHistory (s.history ++ [eventOf t a])).setSeq { s.seq with todo := rest }
  else failOperation a.response.errCode (s.setHistory (s.history ++ [eventOf t a]))

/-- The sequencer's step with the environment's answer (R275). An answer when nothing is outstanding is ignored (log 7). -/
def sequencerStep (a : Answer) (s : State) : Host.Outcome State Fault Refusal :=
  if s.seq.phase = .run then
    match s.seq.todo with
    | [] => .next (drained s)
    | t :: rest =>
      if responseAllowed s.cfg t a.response then .next (answered t rest a s) else .refused .responseOutsideSet
  else .next s

/-- Nothing is left of the outside world's moves: the block waits for the host (R302), and a sequencer whose transaction is never answered
is stuck (R286, S8). -/
def quietStep (s : State) : Host.Outcome State Fault Refusal :=
  if s.seq.phase = .run then
    match s.seq.todo with
    | [] => .next (drained s)
    | _ :: _ => .fault .noAnswer
  else .next s

/-- How many of its transactions a running DRAW_GLYPH has sent. -/
def glyphSent (c : Config) (q : Seq) : Nat := (glyphTxns c q.args q.columns).length - q.todo.length

/-- How many columns a running DRAW_GLYPH must have read: none before its first transaction, then all up to that of the
last PLOT begun, whose byte R249 reads once, before its rows. -/
def columnsRead (c : Config) (q : Seq) : Nat :=
  if glyphSent c q = 0 then 0
  else match (glyphCells q.columns)[(glyphSent c q - 1) / (plot c q.args 0 0).length]? with
    | some cell => cell.1 + 1
    | none => 5

/-- The column bytes after the font table changes: the `read` first stay, each later one is the old or the new as drawn (R312, S6). -/
def mixColumns (read : Nat) (takeNew : List Bool) (old new : List Byte) : List Byte :=
  (List.range 5).map fun i => if read ≤ i ∧ takeNew[i]? = some true then columnAt new i else columnAt old i

/-- The columns of a running DRAW_GLYPH under the changed font table of `c`. -/
def redrawnColumns (c : Config) (takeNew : List Bool) (q : Seq) : List Byte :=
  mixColumns (columnsRead c q) takeNew q.columns (glyphColumns c q.args.fontId q.sub)

/-- A running DRAW_GLYPH with the column bytes `cols`: what it has sent stays sent. -/
def redrawGlyph (c : Config) (cols : List Byte) (q : Seq) : Seq :=
  { q with columns := cols, todo := (glyphTxns c q.args cols).drop (glyphSent c q) }

/-- The font port's table changes (R6, R312, S6). Only a running DRAW_GLYPH reads it (R99); one left with nothing to plot ends at once (R275). -/
def changeFont (table : List Glyph) (takeNew : List Bool) (s : State) : State :=
  if s.seq.phase = .run ∧ s.seq.op = opcDrawGlyph then
    endIfDrained ((s.setCfg { s.cfg with font := table }).setSeq
      (redrawGlyph s.cfg (redrawnColumns { s.cfg with font := table } takeNew s.seq) s.seq))
  else s.setCfg { s.cfg with font := table }

/-- What an abandoned transaction had delivered: a drawn part as for a failure (R88, R300), with drawn modes where a FAIL_DC is possible (R87). -/
def abandonedDelivery (c : Config) (t : Txn) (delivered : Nat) (modes : List WireMode) : List WirePair :=
  match c.transport with
  | .generic => t.pairs.take delivered
  | .spiDcPin => drawModes (t.pairs.take delivered) modes

/-- The record block reset adds: the outstanding transaction, if there is one, with what it had delivered (R300). -/
def abandon (delivered : Nat) (modes : List WireMode) (s : State) : List Abandoned :=
  if s.seq.phase = .run then (s.seq.todo.take 1).map fun t => ⟨t, abandonedDelivery s.cfg t delivered modes⟩ else []

/-- Block reset (R300, R301): every piece of the block's state takes its reset value and nothing is sent.
The parameters, the records of what was read and abandoned, and the outside world's pending moves are not the block's state. -/
def blockReset (delivered : Nat) (modes : List WireMode) (s : State) : State :=
  (((State.resetWith s.cfg).setAbandoned (s.abandoned ++ abandon delivered modes s)).setReads s.reads).setInputs s.inputs

end Sys2Proof.Machine
end

