-- ==== Sys2Proof/Machine/Raster.lean ====
section
/-! DEFINITION. The Rasterizer operations (42_rasterizer.md): DRAW_RECT, DRAW_HLINE, DRAW_VLINE, DRAW_LINE, DRAW_CIRCLE, FILL_CIRCLE, DRAW_GLYPH. -/

namespace Sys2Proof.Machine

/-- DRAW_RECT (R220). -/
def execDrawRect (s : State) : Host.Outcome State Fault Refusal :=
  .next (start { op := opcDrawRect, checks := cornersOk s.operands,
                 todo := rect s.cfg s.operands s.operands.x0.toNat s.operands.y0.toNat
                   s.operands.x1.toNat s.operands.y1.toNat } s)

/-- DRAW_HLINE (R221): `y1` is not read. -/
def execDrawHline (s : State) : Host.Outcome State Fault Refusal :=
  .next (start { op := opcDrawHline
                 checks := decide (s.operands.x0.toNat ≤ s.operands.x1.toNat) &&
                   colOk s.operands s.operands.x1.toNat && rowOk s.operands s.operands.y0.toNat
                 todo := rect s.cfg s.operands s.operands.x0.toNat s.operands.y0.toNat
                   s.operands.x1.toNat s.operands.y0.toNat } s)

/-- DRAW_VLINE (R222): `x1` is not read. -/
def execDrawVline (s : State) : Host.Outcome State Fault Refusal :=
  .next (start { op := opcDrawVline
                 checks := decide (s.operands.y0.toNat ≤ s.operands.y1.toNat) &&
                   colOk s.operands s.operands.x0.toNat && rowOk s.operands s.operands.y1.toNat
                 todo := rect s.cfg s.operands s.operands.x0.toNat s.operands.y0.toNat
                   s.operands.x0.toNat s.operands.y1.toNat } s)

/-- DRAW_LINE (R223). -/
def execDrawLine (s : State) : Host.Outcome State Fault Refusal :=
  .next (start { op := opcDrawLine, checks := lineOk s.operands, todo := lineTxns s.cfg s.operands } s)

/-- DRAW_CIRCLE (R235). -/
def execDrawCircle (s : State) : Host.Outcome State Fault Refusal :=
  .next (start { op := opcDrawCircle, checks := circleOk s.operands, todo := circleTxns s.cfg s.operands } s)

/-- FILL_CIRCLE (R243). -/
def execFillCircle (s : State) : Host.Outcome State Fault Refusal :=
  .next (start { op := opcFillCircle, checks := circleOk s.operands, todo := discTxns s.cfg s.operands } s)

/-- DRAW_GLYPH (R247). -/
def execDrawGlyph (ch : Byte) (s : State) : Host.Outcome State Fault Refusal :=
  .next (start { op := opcDrawGlyph, sub := ch, checks := glyphOk s.operands,
                 todo := glyphTxns s.cfg s.operands (glyphColumns s.cfg s.operands.fontId ch),
                 columns := glyphColumns s.cfg s.operands.fontId ch } s)

end Sys2Proof.Machine
end

