-- ==== Sys2Proof/Machine/Session.lean ====
section
/-! DEFINITION. The Controller Session operations (40_session.md): HARD_RESET, INIT, SET_ORIENTATION, SEND_CMD, DELAY. -/

namespace Sys2Proof.Machine

/-- HARD_RESET's transactions (R151). -/
def hardResetTxns (c : Config) : List Txn :=
  if c.hasResetPin then
    [.pin true, .delay c.tRst, .pin false, .delay c.tRst, .pin true, .delay c.tRst]
  else []

/-- INIT's transactions for the orientation code `o` (R153). -/
def initTxns (c : Config) (o : BitVec 2) : List Txn :=
  [.cmd c.opSwreset, .delay c.tSwreset, .cmd c.opSlpout, .delay c.tSlpout,
   .cmd c.opColmod, .data [c.colmodParam], .cmd c.opMadctl, .data [orientByte c o]] ++
  (if c.invertOn then [.cmd c.opInvon] else []) ++
  [.cmd c.opNoron, .delay c.tNoron, .cmd c.opDispon, .delay c.tDispon]

/-- SET_ORIENTATION's transactions (R156). -/
def orientationTxns (c : Config) (o : BitVec 2) : List Txn := [.cmd c.opMadctl, .data [orientByte c o]]

/-- HARD_RESET (R150): valid in both session states, `session <- UNINIT` at accept. -/
def execHardReset (s : State) : Host.Outcome State Fault Refusal :=
  .next (start { op := opcHardReset, inUninit := true, unready := true, todo := hardResetTxns s.cfg } s)

/-- INIT (R153): valid in both session states; READY and the orientation are set on completion. -/
def execInit (sub : Byte) (s : State) : Host.Outcome State Fault Refusal :=
  .next (start { op := opcInit, sub := sub, legal := (Instr.init sub).wf, inUninit := true,
                 todo := initTxns s.cfg (sub.extractLsb' 0 2) } s)

/-- SET_ORIENTATION (R156). -/
def execSetOrientation (sub : Byte) (s : State) : Host.Outcome State Fault Refusal :=
  .next (start { op := opcSetOrientation, sub := sub, legal := (Instr.setOrientation sub).wf,
                 todo := orientationTxns s.cfg (sub.extractLsb' 0 2) } s)

/-- SEND_CMD (R157): the opcode, then a BYTES stream of `N` bytes when `N > 0`. -/
def execSendCmd (op : Byte) (s : State) : Host.Outcome State Fault Refusal :=
  .next (start { op := opcSendCmd, sub := op, todo := [.cmd op],
                 next := if s.operands.count = 0 then .finish else .openStream } s)

/-- DELAY (R159): valid in both session states. -/
def execDelay (s : State) : Host.Outcome State Fault Refusal :=
  .next (start { op := opcDelay, inUninit := true, todo := [.delay s.operands.aux] } s)

end Sys2Proof.Machine
end

