-- ==== Sys2Proof/Machine/Streamer.lean ====
section
/-! DEFINITION. The Address Window Manager and Pixel Streamer operations (41_window_streamer.md): SET_WINDOW, SET_PIXEL, SET_PIXELS, BLIT, END_STREAM. -/

namespace Sys2Proof.Machine

/-- SET_WINDOW (R187): the window alone, no memory-write. -/
def execSetWindow (s : State) : Host.Outcome State Fault Refusal :=
  .next (start { op := opcSetWindow, checks := cornersOk s.operands,
                 todo := winAt s.cfg s.operands s.operands.x0.toNat s.operands.y0.toNat
                   s.operands.x1.toNat s.operands.y1.toNat } s)

/-- SET_PIXEL (R190). -/
def execSetPixel (s : State) : Host.Outcome State Fault Refusal :=
  .next (start { op := opcSetPixel
                 checks := colOk s.operands s.operands.x0.toNat && rowOk s.operands s.operands.y0.toNat
                 todo := plot s.cfg s.operands s.operands.x0.toNat s.operands.y0.toNat } s)

/-- SET_PIXELS (R191): window and memory-write, then a PIXELS stream. -/
def execSetPixels (s : State) : Host.Outcome State Fault Refusal :=
  .next (start { op := opcSetPixels, checks := cornersOk s.operands, next := .openStream,
                 todo := openRect s.cfg s.operands s.operands.x0.toNat s.operands.y0.toNat
                   s.operands.x1.toNat s.operands.y1.toNat } s)

/-- BLIT (R193): `W = x1`, `H = y1`, `LEN = aux`; window and memory-write, then a BYTES stream. -/
def execBlit (s : State) : Host.Outcome State Fault Refusal :=
  .next (start { op := opcBlit, checks := blitOk s.operands, next := .openStream,
                 todo := openRect s.cfg s.operands s.operands.x0.toNat s.operands.y0.toNat
                   (s.operands.x0.toNat + s.operands.x1.toNat - 1) (s.operands.y0.toNat + s.operands.y1.toNat - 1) } s)

/-- END_STREAM (R195). -/
def execEndStream (s : State) : Host.Outcome State Fault Refusal := .next (takeEndStream s)

end Sys2Proof.Machine
end

