-- ==== Sys2Proof/Machine/Dispatch.lean ====
section
/-! DEFINITION. One arm per instruction: the effect of a host write of its command word to CMD (R272). -/

namespace Sys2Proof.Machine

def exec (i : Instr) (s : State) : Host.Outcome State Fault Refusal :=
  match i with
  | .hardReset => Sys2Proof.Machine.execHardReset s
  | .init sub => Sys2Proof.Machine.execInit sub s
  | .setOrientation sub => Sys2Proof.Machine.execSetOrientation sub s
  | .sendCmd op => Sys2Proof.Machine.execSendCmd op s
  | .delay => Sys2Proof.Machine.execDelay s
  | .setWindow => Sys2Proof.Machine.execSetWindow s
  | .setPixel => Sys2Proof.Machine.execSetPixel s
  | .setPixels => Sys2Proof.Machine.execSetPixels s
  | .blit => Sys2Proof.Machine.execBlit s
  | .endStream => Sys2Proof.Machine.execEndStream s
  | .drawRect => Sys2Proof.Machine.execDrawRect s
  | .drawHline => Sys2Proof.Machine.execDrawHline s
  | .drawVline => Sys2Proof.Machine.execDrawVline s
  | .drawLine => Sys2Proof.Machine.execDrawLine s
  | .drawCircle => Sys2Proof.Machine.execDrawCircle s
  | .fillCircle => Sys2Proof.Machine.execFillCircle s
  | .drawGlyph ch => Sys2Proof.Machine.execDrawGlyph ch s

end Sys2Proof.Machine
end

