-- ==== Sys2Proof/Machine/Bus.lean ====
section
/-! DEFINITION. The host's register window (R80 to R82, R41): reads, writes, the CMD port, and one move of the outside world. -/

namespace Sys2Proof.Machine

/-- The byte offsets of the registers (R41). -/
def offCmd : Nat := 0x00
def offStatus : Nat := 0x04
def offArg0 : Nat := 0x08
def offArg1 : Nat := 0x0C
def offArg2 : Nat := 0x10
def offColor : Nat := 0x14
def offOffset : Nat := 0x18
def offGeom : Nat := 0x1C
def offOrient : Nat := 0x20
def offData : Nat := 0x24

/-- The value a read of the window returns (R41 to R55, R80): CMD, DATA and the reserved offsets read 0. -/
def readReg (s : State) (off : Nat) : Word :=
  if off = offStatus then s.status
  else if off = offArg0 then s.arg0
  else if off = offArg1 then s.arg1
  else if off = offArg2 then s.arg2
  else if off = offColor then s.color
  else if off = offOffset then s.offset
  else if off = offGeom then s.geomWord
  else if off = offOrient then s.orientWord
  else 0

/-- A host write of a command word to CMD (R42, R272). -/
def presentCommand (w : Word) (s : State) : Host.Outcome State Fault Refusal :=
  match decode w with
  | some i => exec i s
  | none => .next (startIllegal s)

/-- A host write to OFFSET (R52): ignored when the offset is not writable. -/
def writeOffset (s : State) (v : Word) : State := if s.cfg.offsetWritable then s.setOffset v else s

/-- A host write of `v` at offset `off` of the window (R41 to R55, R80, R82): GEOM, ORIENT and the reserved offsets ignore it. -/
def writeReg (s : State) (off : Nat) (v : Word) : Host.Outcome State Fault Refusal :=
  if off = offCmd then presentCommand v s
  else if off = offStatus then .next (s.writeStatus v)
  else if off = offArg0 then .next (s.setArg0 v)
  else if off = offArg1 then .next (s.setArg1 v)
  else if off = offArg2 then .next (s.setArg2 v)
  else if off = offColor then .next (s.setColor v)
  else if off = offOffset then .next (writeOffset s v)
  else if off = offData then .next (takeDatum v s)
  else .next s

/-- Why an access is not one of the window's defined accesses (R80): `none` when it is one. -/
def accessRefusal (width off : Nat) : Option Refusal :=
  if width = 4 ∧ off % 4 = 0 then
    if off < 64 then none else some .outsideWindow
  else some .undefinedAccess

/-- A host read (R80, R82): no effect but the value the host gets. -/
def hostRead (width off : Nat) (s : State) : Host.Outcome State Fault Refusal :=
  match accessRefusal width off with
  | some r => .refused r
  | none => .next (s.setReads (s.reads ++ [(off, readReg s off)]))

/-- A host write (R80, R82). -/
def hostWrite (width off : Nat) (v : Word) (s : State) : Host.Outcome State Fault Refusal :=
  match accessRefusal width off with
  | some r => .refused r
  | none => writeReg s off v

/-- One move of the outside world, on the state without it. The answer to an abandoned transaction is ignored, whatever runs by then (R300). -/
def takeInput (i : Input) (s : State) : Host.Outcome State Fault Refusal :=
  match i with
  | .hostRead width off => hostRead width off s
  | .hostWrite width off v => hostWrite width off v s
  | .otherMaster => .refused .secondMaster
  | .answer a => sequencerStep a s
  | .lateAnswer _ => .next s
  | .fontChange table takeNew => .next (changeFont table takeNew s)
  | .blockReset delivered modes => .next (blockReset delivered modes s)

/-- One step: the oldest pending move of the outside world. -/
def nextMove (s : State) : Host.Outcome State Fault Refusal :=
  match s.inputs with
  | [] => quietStep s
  | i :: rest => takeInput i (s.setInputs rest)

/-- The state with a host write of the word to CMD as the very next move: how a command reaches the block (R42, R99). -/
def placeCommand (s : State) (w : Word) : State := s.setInputs (.hostWrite 4 offCmd w :: s.inputs)

end Sys2Proof.Machine
end

