-- ==== Sys2Proof/Machine/Step.lean ====
section
/-! DEFINITION. The step: one host access, one sequencer step with the environment's answer, one change of the font table, or one block reset (R83, R95, R275, R300, R312). -/

namespace Sys2Proof.Machine

/-- One step of the machine. -/
def step (s : State) : Host.Outcome State Fault Refusal := nextMove s

/-- The state in which the very next step presents the table's word to CMD. The block fetches nothing (R99):
a command word reaches it as a host write, so the word is placed as the next pending host write. -/
def State.withFetchWord (s : State) (nbits w : Nat) : State := placeCommand s (tableWord nbits w)

end Sys2Proof.Machine
end

