-- ==== Sys2Proof/Machine/Assembler.lean ====
section
/-! DEFINITION. The host-program syntax of 30_encoding.md section 3 (R128, R129): base statements, pseudo-instructions and their expansions. -/

namespace Sys2Proof.Machine

/-- The register names of the syntax (R128). -/
inductive HostReg where
  | cmd | status | arg0 | arg1 | arg2 | color | offset | geom | orient | data
  deriving DecidableEq, Repr

/-- `offset(REG)` (R41). -/
def HostReg.byteOffset : HostReg → Nat
  | .cmd => offCmd
  | .status => offStatus
  | .arg0 => offArg0
  | .arg1 => offArg1
  | .arg2 => offArg2
  | .color => offColor
  | .offset => offOffset
  | .geom => offGeom
  | .orient => offOrient
  | .data => offData

/-- The base statements (R128). -/
inductive HostStmt where
  | wr (r : HostReg) (v : Word)
  | rd (r : HostReg)
  /-- `cmd MNEMONIC, sub`. -/
  | command (i : Instr)
  /-- Read STATUS until BUSY reads 0. -/
  | poll
  deriving DecidableEq, Repr

/-- The host access a base statement makes (R128); for `poll`, the one access its loop repeats while `pollAgain` says so. -/
def HostStmt.access : HostStmt → Input
  | .wr r v => .hostWrite 4 r.byteOffset v
  | .rd r => .hostRead 4 r.byteOffset
  | .command i => .hostWrite 4 offCmd (encode i)
  | .poll => .hostRead 4 offStatus

/-- Whether a STATUS value makes `poll` read again (R128): bit 0 is 1. -/
def pollAgain (status : Word) : Bool := status.getLsbD 0

/-- `pack(a, b) = b * 2^16 + a` (R129). -/
def pack (a b : Half) : Word := b ++ a

/-- The pseudo-instructions (R129). -/
inductive Pseudo where
  | hardReset
  | init (o : BitVec 2)
  | orient (o : BitVec 2)
  | delay (us : Word)
  | send (op : Byte) (n : Word)
  | window (x0 y0 x1 y1 : Half)
  | pixel (x y : Half) (c : Word)
  | pixels (x0 y0 x1 y1 : Half)
  | blit (x y w h : Half) (len : Word)
  | push (v : Word)
  | finish
  | rect (x0 y0 x1 y1 : Half) (c : Word)
  | hline (x0 x1 y : Half) (c : Word)
  | vline (x y0 y1 : Half) (c : Word)
  | line (x0 y0 x1 y1 : Half) (c : Word)
  | circle (cx cy : Half) (r : Word) (c : Word)
  | disc (cx cy : Half) (r : Word) (c : Word)
  | glyph (ch : Byte) (x y : Half) (font : Word) (c : Word)
  deriving DecidableEq, Repr

/-- The expansions of R129; `finish` is `end`. -/
def Pseudo.expand : Pseudo → List HostStmt
  | .hardReset => [.command .hardReset, .poll]
  | .init o => [.command (.init (o.zeroExtend 8)), .poll]
  | .orient o => [.command (.setOrientation (o.zeroExtend 8)), .poll]
  | .delay us => [.wr .arg2 us, .command .delay, .poll]
  | .send op n => [.wr .arg2 n, .command (.sendCmd op), .poll]
  | .window x0 y0 x1 y1 => [.wr .arg0 (pack x0 y0), .wr .arg1 (pack x1 y1), .command .setWindow, .poll]
  | .pixel x y c => [.wr .arg0 (pack x y), .wr .color c, .command .setPixel, .poll]
  | .pixels x0 y0 x1 y1 => [.wr .arg0 (pack x0 y0), .wr .arg1 (pack x1 y1), .command .setPixels, .poll]
  | .blit x y w h len => [.wr .arg0 (pack x y), .wr .arg1 (pack w h), .wr .arg2 len, .command .blit, .poll]
  | .push v => [.poll, .wr .data v]
  | .finish => [.poll, .command .endStream, .poll]
  | .rect x0 y0 x1 y1 c => [.wr .arg0 (pack x0 y0), .wr .arg1 (pack x1 y1), .wr .color c, .command .drawRect, .poll]
  | .hline x0 x1 y c => [.wr .arg0 (pack x0 y), .wr .arg1 (pack x1 0), .wr .color c, .command .drawHline, .poll]
  | .vline x y0 y1 c => [.wr .arg0 (pack x y0), .wr .arg1 (pack 0 y1), .wr .color c, .command .drawVline, .poll]
  | .line x0 y0 x1 y1 c => [.wr .arg0 (pack x0 y0), .wr .arg1 (pack x1 y1), .wr .color c, .command .drawLine, .poll]
  | .circle cx cy r c => [.wr .arg0 (pack cx cy), .wr .arg2 r, .wr .color c, .command .drawCircle, .poll]
  | .disc cx cy r c => [.wr .arg0 (pack cx cy), .wr .arg2 r, .wr .color c, .command .fillCircle, .poll]
  | .glyph ch x y font c => [.wr .arg0 (pack x y), .wr .arg2 font, .wr .color c, .command (.drawGlyph ch), .poll]

/-- The host's boot sequence (R305): the panel offset where the host sets one, then hard reset, then INIT with the orientation. -/
def bootSequence (offset : Option Word) (o : BitVec 2) : List HostStmt :=
  (match offset with
    | some v => [.wr .offset v]
    | none => []) ++ Pseudo.hardReset.expand ++ (Pseudo.init o).expand

end Sys2Proof.Machine
end

