-- ==== Sys2Proof/Machine/Panel.lean ====
section
/-! DEFINITION. The reference controller (R101 to R103), not normative for the block: what the wire's bytes paint, from any controller state the history admits. -/

namespace Sys2Proof.Machine

/-- The reference controller's mode (R101); CAS and RAS keep the parameter bytes taken so far. -/
inductive PanelMode where
  | idle
  | cas (taken : List Byte)
  | ras (taken : List Byte)
  | ram
  | other
  deriving DecidableEq, Repr

/-- The reference controller's state (R101). It is the controller's, not the block's (R40), so it is no part of State. -/
structure Panel where
  cs : Half
  ce : Half
  rs : Half
  re : Half
  px : Half
  py : Half
  mode : PanelMode
  /-- The bytes of a pixel not yet complete. -/
  pp : List Byte
  /-- The frame memory, by column and row: a pixel's colour is its bytes, most significant first. -/
  gram : Half → Half → List Byte

/-- Four parameter bytes as two big-endian words (R102). -/
def pairOf (a0 a1 a2 a3 : Byte) : Half × Half := (a0 ++ a1, a2 ++ a3)

/-- The write pointer after a pixel (R103). -/
def Panel.advance (p : Panel) : Panel :=
  let wrapX := decide (p.ce.toNat < p.px.toNat + 1)
  let row := if wrapX then p.py.toNat + 1 else p.py.toNat
  { p with
    px := if wrapX then p.cs else p.px + 1
    py := if p.re.toNat < row then p.rs else BitVec.ofNat 16 row }

/-- A data byte in mode RAM (R103). -/
def Panel.writeByte (c : Config) (p : Panel) (d : Byte) : Panel :=
  if (p.pp ++ [d]).length = bytesPerColor c then
    Panel.advance { p with
      pp := []
      gram := fun x y => if x = p.px ∧ y = p.py then p.pp ++ [d] else p.gram x y }
  else { p with pp := p.pp ++ [d] }

/-- One pair of the wire (R102, R103). -/
def Panel.feed (c : Config) (p : Panel) (w : WirePair) : Panel :=
  match w.mode with
  | .cmd =>
    if w.byte = c.opCaset then { p with mode := .cas [] }
    else if w.byte = c.opRaset then { p with mode := .ras [] }
    else if w.byte = c.opRamwr then { p with mode := .ram, px := p.cs, py := p.rs, pp := [] }
    else { p with mode := .other }
  | .data =>
    match p.mode with
    | .cas [a0, a1, a2] => { p with cs := (pairOf a0 a1 a2 w.byte).1, ce := (pairOf a0 a1 a2 w.byte).2, mode := .other }
    | .cas taken => { p with mode := .cas (taken ++ [w.byte]) }
    | .ras [a0, a1, a2] => { p with rs := (pairOf a0 a1 a2 w.byte).1, re := (pairOf a0 a1 a2 w.byte).2, mode := .other }
    | .ras taken => { p with mode := .ras (taken ++ [w.byte]) }
    | .ram => Panel.writeByte c p w.byte
    | .idle => p
    | .other => p

/-- The wire's pairs in order. -/
def Panel.feedAll (c : Config) (p : Panel) (wire : List WirePair) : Panel := wire.foldl (Panel.feed c) p

/-- Events of the transactions `l`, all answered OK. -/
def okEvents (l : List Txn) : List Event := l.map fun t => ⟨t, .ok, t.pairs⟩

/-- A history after which the controller follows the wire: one that ends with a hard reset and, later, an INIT, with no failure
from the hard reset on (R101, R307). Without a reset pin the hard reset is empty and INIT alone is left of the pair. -/
def SyncPoint (c : Config) (h : List Event) : Prop :=
  ∃ before between o, (∀ e ∈ between, e.response = .ok) ∧
    h = before ++ okEvents (hardResetTxns c) ++ between ++ okEvents (initTxns c o)

/-- Events through which the controller keeps following the wire: none failed (R101, R277), and none resets the panel,
by its pin or by the software-reset command that begins an INIT, whose rest may be missing (R101's partial INIT). -/
def Followed (c : Config) (after : List Event) : Prop :=
  ∀ e ∈ after, e.response = .ok ∧ (∀ level, e.txn ≠ .pin level) ∧ e.txn ≠ .cmd c.opSwreset

/-- The controller states a history admits (R101, R277): from a sync point on, as long as it is followed,
what feeding the delivered pairs to any starting state gives; otherwise any state. -/
def Panel.Admitted (c : Config) (h : List Event) (p : Panel) : Prop :=
  ∀ before after, h = before ++ after → SyncPoint c before → Followed c after →
    ∃ p0, p = Panel.feedAll c p0 (wireOf after)

end Sys2Proof.Machine
end

