-- ==== Sys2Proof/Safety.lean ====
section
/-! DEFINITION. The terms the claims use: the states a command word is evaluated in, the states it leads to, the invariant of the sequencer, runs, and the logical byte stream. -/

namespace Sys2Proof.Machine

/-- A starting command word is evaluated, not dropped (R272 steps 1 and 2): no transaction is owed and no stream is open. -/
def State.accepting (s : State) : Prop := s.seq.phase ≠ .run ∧ s.seq.stream = .none

/-- The state after a word is accepted with transactions owed (R272 steps 3 and 6): everything else as before. `columns` is DRAW_GLYPH's (R249). -/
def State.startedWith (s : State) (op sub : Byte) (todo : List Txn) (next : NextStep) (columns : List Byte := []) : State :=
  { s with
    err := .none
    seq := { phase := .run, op := op, sub := sub, args := s.operands, stream := .none, remaining := 0,
             next := next, buf := [], todo := todo, columns := columns } }

/-- The state after a word is accepted that owes nothing and so ends within the access (R272 step 6, R275 case (d)). -/
def State.endedAtOnce (s : State) (op sub : Byte) (columns : List Byte := []) : State :=
  { s with
    err := .none
    seq := { phase := .idle, op := op, sub := sub, args := s.operands, stream := .none, remaining := 0,
             next := .finish, buf := [], todo := [], columns := columns } }

/-- The invariant of every reachable state. -/
structure Inv (s : State) : Prop where
  /-- The parameters keep the bounds of R8 and R18. -/
  cfgValid : s.cfg.valid = true
  /-- IDLE owes nothing, has no stream and an empty buffer (R56, R58). -/
  idle : s.seq.phase = .idle → s.seq.stream = .none ∧ s.seq.todo = []
  /-- WAIT has an open stream and owes nothing (R56). -/
  waiting : s.seq.phase = .wait → s.seq.stream ≠ .none ∧ s.seq.todo = []
  /-- RUN owes a transaction (R56). -/
  running : s.seq.phase = .run → s.seq.todo ≠ []
  /-- A stream is open only after its opening (R56) and only in READY (R283). -/
  streamOpen : s.seq.stream ≠ .none → s.seq.next = .finish ∧ s.session = .ready
  /-- A PIXELS stream is SET_PIXELS's and counts no bytes (R275). -/
  pixelsOp : s.seq.stream = .pixels → s.seq.op = 0x12 ∧ s.seq.remaining = 0
  /-- A BYTES stream is BLIT's or SEND_CMD's and still expects a byte (R275, R196). -/
  bytesOp : s.seq.stream = .bytes → (s.seq.op = 0x13 ∨ s.seq.op = 0x04) ∧ s.seq.remaining ≠ 0
  /-- An operation that will open a stream (R272 step 6). -/
  opening : s.seq.phase = .run → s.seq.next = .openStream →
    s.session = .ready ∧ s.seq.stream = .none ∧ s.seq.remaining = 0 ∧
    (s.seq.op = 0x12 ∨ (s.seq.op = 0x13 ∧ s.seq.args.aux ≠ 0) ∨ (s.seq.op = 0x04 ∧ s.seq.args.count ≠ 0))
  /-- With no stream open the buffer is empty (R58). -/
  closedBuf : s.seq.stream = .none → s.seq.buf = []
  /-- The buffer never holds a whole chunk between steps (R56, R58). -/
  bufSmall : s.seq.buf.length < s.cfg.batchBytes
  /-- A data transaction has at least one byte, and at most `B` or the 4 of a window (R84). -/
  dataSizes : ∀ l, Txn.data l ∈ s.seq.todo → l ≠ [] ∧ (l.length ≤ s.cfg.batchBytes ∨ l.length = 4)
  /-- Bytes still expected after the stream is closed: END_STREAM closed it short (R275). -/
  short : s.seq.phase = .run → s.seq.stream = .none → s.seq.next = .finish → s.seq.remaining ≠ 0 →
    s.seq.op = 0x13 ∨ s.seq.op = 0x04
  /-- In UNINIT only HARD_RESET, INIT and DELAY run (R302, R283). -/
  uninitOp : s.session = .uninit → s.seq.phase = .run → s.seq.op = 0x01 ∨ s.seq.op = 0x02 ∨ s.seq.op = 0x05
  /-- What a running DRAW_GLYPH owes is the end of its columns' list (R249). -/
  glyphOwed : s.seq.phase = .run → s.seq.op = 0x26 → s.seq.todo <:+ glyphTxns s.cfg s.seq.args s.seq.columns
  /-- While an operation runs ERR is NONE (R270). -/
  busyErr : s.seq.phase ≠ .idle → s.err = .none

/-- `n` steps of the machine. -/
def runSteps (n : Nat) (s : State) : Host.Outcome State Fault Refusal := Host.Core.run Sys2Proof.core n s

/-- The answers as pending moves. -/
def answerInputs (l : List Answer) : List Input := l.map Input.answer

/-- The pairs the block still owes the wire: its transactions', then the buffered stream bytes (R96). -/
def State.owedPairs (s : State) : List WirePair :=
  s.seq.todo.flatMap Txn.pairs ++ s.seq.buf.map fun b => ⟨.data, b⟩

/-- The window opcodes are told apart, which the reference controller needs to read a window (R102). -/
def Config.windowOpcodesDistinct (c : Config) : Prop :=
  c.opCaset ≠ c.opRaset ∧ c.opCaset ≠ c.opRamwr ∧ c.opRaset ≠ c.opRamwr

end Sys2Proof.Machine
end

