-- ==== Sys2Proof/Certificates/Slice0/Obligations.lean ====
section
/-! DEFINITION. The statements for the provers. -/

open Sys2Proof Sys2Proof.Machine

/-! ## Encoding -/

/-- R123, R125: a few words written out from the spec, legal and illegal. -/
def Obligations.SpecWordsDecode : Prop :=
  decode 0x00000001 = some .hardReset ∧ decode 0x00000302 = some (.init 3) ∧ decode 0x00000103 = some (.setOrientation 1) ∧
  decode 0x00002A04 = some (.sendCmd 0x2A) ∧ decode 0x00000013 = some .blit ∧ decode 0x0000001F = some .endStream ∧
  decode 0x00000023 = some .drawLine ∧ decode 0x00000126 = some (.drawGlyph 1) ∧
  decode 0x00000402 = none ∧ decode 0x00010020 = none ∧ decode 0x00000120 = none ∧ decode 0x00000027 = none

/-- R130: the command words of the operations. -/
def Obligations.EncodeGivesTheListedWords : Prop :=
  encode .hardReset = 0x00000001 ∧
  (∀ o : Byte, encode (.init o) = 0x00000002 ||| o.zeroExtend 32 <<< 8) ∧
  (∀ o : Byte, encode (.setOrientation o) = 0x00000003 ||| o.zeroExtend 32 <<< 8) ∧
  (∀ op : Byte, encode (.sendCmd op) = 0x00000004 ||| op.zeroExtend 32 <<< 8) ∧
  encode .delay = 0x00000005 ∧ encode .setWindow = 0x00000010 ∧ encode .setPixel = 0x00000011 ∧
  encode .setPixels = 0x00000012 ∧ encode .blit = 0x00000013 ∧ encode .endStream = 0x0000001F ∧
  encode .drawRect = 0x00000020 ∧ encode .drawHline = 0x00000021 ∧ encode .drawVline = 0x00000022 ∧
  encode .drawLine = 0x00000023 ∧ encode .drawCircle = 0x00000024 ∧ encode .fillCircle = 0x00000025 ∧
  (∀ ch : Byte, encode (.drawGlyph ch) = 0x00000026 ||| ch.zeroExtend 32 <<< 8)

/-- R120, R121, R123, R124: no bit of an encoding is dropped, and a legal word is the encoding of the well-formed instruction it decodes to. -/
def Obligations.DecodeAndEncodeAgree : Prop :=
  (∀ i : Instr, i.wf = true → decode (encode i) = some i) ∧
  (∀ (w : Word) (i : Instr), decode w = some i → encode i = w ∧ i.wf = true)

/-- R124: legal exactly as the three conditions say, and equivalently by the rows of opcode_table.json. -/
def Obligations.LegalWordsAreTheTableRows : Prop :=
  ∀ w : Word,
    ((decode w).isSome = true ↔
      w.extractLsb' 16 16 = 0 ∧
      ((w.extractLsb' 0 8 ∈ ([0x02, 0x03] : List Byte) ∧ w.extractLsb' 10 6 = 0) ∨
       w.extractLsb' 0 8 ∈ ([0x04, 0x26] : List Byte) ∨
       (w.extractLsb' 0 8 ∈ ([0x01, 0x05, 0x10, 0x11, 0x12, 0x13, 0x1F, 0x20, 0x21, 0x22, 0x23, 0x24, 0x25] : List Byte) ∧
        w.extractLsb' 8 8 = 0))) ∧
    ((decode w).isSome = true ↔ ∃ row ∈ opcodeTable, w &&& row.mask = row.pattern)

/-! ## Command words -/

/-- R42, R272: a host write to CMD of a word that decodes to `i` is `exec i` on the state without that move. -/
def Obligations.StepRunsTheDecodedCommand : Prop :=
  ∀ (s : State) (w : Word) (i : Instr) (rest : List Input),
    s.inputs = .hostWrite 4 0x00 w :: rest → decode w = some i → step s = exec i { s with inputs := rest }

/-- R124, R125, R272: every illegal word behaves the same way: dropped while busy or streaming, else rejected with ILLEGAL_OP. -/
def Obligations.IllegalWordsAreRejectedAlike : Prop :=
  ∀ (s : State) (w : Word) (rest : List Input), s.inputs = .hostWrite 4 0x00 w :: rest →
    (∀ row ∈ opcodeTable, w &&& row.mask ≠ row.pattern) →
    (s.seq.phase = .run ∨ s.seq.stream ≠ .none → step s = .next { s with inputs := rest, ovr := true }) ∧
    (s.accepting → step s = .next { s with inputs := rest, err := .illegalOp })

/-- R274: the dropped host writes, and that only `ovr` changes. -/
def Obligations.DroppedWritesSetOnlyOvr : Prop :=
  ∀ (s : State) (off : Nat) (w : Word) (rest : List Input), s.inputs = .hostWrite 4 off w :: rest →
    ((off = 0x00 ∧ s.seq.phase = .run) ∨
     (off = 0x00 ∧ w ≠ 0x0000001F ∧ s.seq.stream ≠ .none) ∨
     (off = 0x00 ∧ w = 0x0000001F ∧ s.seq.stream = .none) ∨
     (off = 0x24 ∧ s.seq.phase = .run) ∨
     (off = 0x24 ∧ s.seq.stream = .none)) →
    step s = .next { s with inputs := rest, ovr := true }

/-- R124, R272 steps 3 and 4, R273, R283: INIT or SET_ORIENTATION with a reserved SUB bit set is ILLEGAL_OP in either session state, and in UNINIT
every starting word but HARD_RESET, INIT and DELAY is rejected with NOT_READY. -/
def Obligations.RejectionsBeforeTheChecks : Prop :=
  (∀ (sub : Byte) (s : State), s.accepting → 4 ≤ sub.toNat →
    exec (.init sub) s = .next { s with err := .illegalOp } ∧ exec (.setOrientation sub) s = .next { s with err := .illegalOp }) ∧
  (∀ (i : Instr) (s : State), i.wf = true → s.accepting → s.session = .uninit →
    i ≠ .hardReset → (∀ sub, i ≠ .init sub) → i ≠ .delay → i ≠ .endStream →
    exec i s = .next { s with err := .notReady })

/-- R180, R181, R187 to R194, R220 to R224, R236, R248, R273: a failed argument check rejects with INVALID_INPUT and changes nothing else. -/
def Obligations.FailedChecksAreInvalidInput : Prop :=
  ∀ s : State, s.accepting → s.session = .ready →
    let x0 := (s.arg0.extractLsb' 0 16).toNat
    let y0 := (s.arg0.extractLsb' 16 16).toNat
    let x1 := (s.arg1.extractLsb' 0 16).toNat
    let y1 := (s.arg1.extractLsb' 16 16).toNat
    let r := (s.arg2.extractLsb' 0 16).toNat
    let offx := (s.offset.extractLsb' 0 16).toNat
    let offy := (s.offset.extractLsb' 16 16).toNat
    let rejected : Host.Outcome State Fault Refusal := .next { s with err := .invalidInput }
    (¬ (x0 ≤ x1 ∧ y0 ≤ y1 ∧ x1 + offx ≤ 0xFFFF ∧ y1 + offy ≤ 0xFFFF) →
      exec .setWindow s = rejected ∧ exec .setPixels s = rejected ∧ exec .drawRect s = rejected) ∧
    (¬ (x0 + offx ≤ 0xFFFF ∧ y0 + offy ≤ 0xFFFF) → exec .setPixel s = rejected) ∧
    (¬ (s.arg2.toNat = x1 * y1 * 2 ∧ 1 ≤ x1 ∧ 1 ≤ y1 ∧ x0 + x1 - 1 + offx ≤ 0xFFFF ∧ y0 + y1 - 1 + offy ≤ 0xFFFF) →
      exec .blit s = rejected) ∧
    (¬ (x0 ≤ x1 ∧ x1 + offx ≤ 0xFFFF ∧ y0 + offy ≤ 0xFFFF) → exec .drawHline s = rejected) ∧
    (¬ (y0 ≤ y1 ∧ x0 + offx ≤ 0xFFFF ∧ y1 + offy ≤ 0xFFFF) → exec .drawVline s = rejected) ∧
    (¬ (max x0 x1 + offx ≤ 0xFFFF ∧ max y0 y1 + offy ≤ 0xFFFF) → exec .drawLine s = rejected) ∧
    (¬ (r ≤ x0 ∧ r ≤ y0 ∧ x0 + r + offx ≤ 0xFFFF ∧ y0 + r + offy ≤ 0xFFFF) →
      exec .drawCircle s = rejected ∧ exec .fillCircle s = rejected) ∧
    (∀ ch, ¬ (4 ≤ x0 ∧ 6 ≤ y0 ∧ x0 + offx ≤ 0xFFFF ∧ y0 + offy ≤ 0xFFFF) → exec (.drawGlyph ch) s = rejected)

/-! ## What each operation starts: the next state whole, so what it leaves unchanged too -/

/-- R150, R151: HARD_RESET, in either session state, with and without a reset pin. -/
def Obligations.HardResetStarts : Prop :=
  ∀ s : State, s.accepting →
    (s.cfg.hasResetPin = true →
      exec .hardReset s = .next (State.startedWith { s with session := .uninit } 0x01 0
        [.pin true, .delay s.cfg.tRst, .pin false, .delay s.cfg.tRst, .pin true, .delay s.cfg.tRst] .finish)) ∧
    (s.cfg.hasResetPin = false →
      exec .hardReset s = .next (State.endedAtOnce { s with session := .uninit } 0x01 0))

/-- R153: INIT's list, in either session state; `session` and `orient` are not changed at accept. -/
def Obligations.InitStarts : Prop :=
  ∀ (s : State) (sub : Byte), s.accepting → sub.toNat < 4 →
    exec (.init sub) s = .next (State.startedWith s 0x02 sub
      ([.cmd s.cfg.opSwreset, .delay s.cfg.tSwreset, .cmd s.cfg.opSlpout, .delay s.cfg.tSlpout,
        .cmd s.cfg.opColmod, .data [s.cfg.colmodParam], .cmd s.cfg.opMadctl,
        .data [if sub = 0 then s.cfg.orientByte0 else if sub = 1 then s.cfg.orientByte1
               else if sub = 2 then s.cfg.orientByte2 else s.cfg.orientByte3]] ++
       (if s.cfg.invertOn = true then [.cmd s.cfg.opInvon] else []) ++
       [.cmd s.cfg.opNoron, .delay s.cfg.tNoron, .cmd s.cfg.opDispon, .delay s.cfg.tDispon]) .finish)

/-- R156: SET_ORIENTATION's list. -/
def Obligations.SetOrientationStarts : Prop :=
  ∀ (s : State) (sub : Byte), s.accepting → s.session = .ready → sub.toNat < 4 →
    exec (.setOrientation sub) s = .next (State.startedWith s 0x03 sub
      [.cmd s.cfg.opMadctl,
       .data [if sub = 0 then s.cfg.orientByte0 else if sub = 1 then s.cfg.orientByte1
              else if sub = 2 then s.cfg.orientByte2 else s.cfg.orientByte3]] .finish)

/-- R157, R272 step 6: SEND_CMD sends its opcode whatever it is, and will open a stream exactly when N > 0. -/
def Obligations.SendCmdStarts : Prop :=
  ∀ (s : State) (op : Byte), s.accepting → s.session = .ready →
    (s.arg2.extractLsb' 0 16 = 0 → exec (.sendCmd op) s = .next (State.startedWith s 0x04 op [.cmd op] .finish)) ∧
    (s.arg2.extractLsb' 0 16 ≠ 0 → exec (.sendCmd op) s = .next (State.startedWith s 0x04 op [.cmd op] .openStream))

/-- R159: DELAY, in either session state. -/
def Obligations.DelayStarts : Prop :=
  ∀ s : State, s.accepting → exec .delay s = .next (State.startedWith s 0x05 0 [.delay s.arg2] .finish)

/-- R187, R189, R190, R197: SET_WINDOW sends the window in device coordinates and nothing else; SET_PIXEL is SET_WINDOW's list for the one-pixel window,
the memory-write command and one colour word, and does not read `x1, y1`. -/
def Obligations.SetWindowAndSetPixelStart : Prop :=
  ∀ s : State, s.accepting → s.session = .ready →
    let a := s.operands
    (a.x0.toNat ≤ a.x1.toNat → a.y0.toNat ≤ a.y1.toNat →
      a.x1.toNat + a.offx.toNat ≤ 0xFFFF → a.y1.toNat + a.offy.toNat ≤ 0xFFFF →
      exec .setWindow s = .next (State.startedWith s 0x10 0
        (win s.cfg (a.x0.toNat + a.offx.toNat) (a.y0.toNat + a.offy.toNat)
          (a.x1.toNat + a.offx.toNat) (a.y1.toNat + a.offy.toNat)) .finish)) ∧
    (a.x0.toNat + a.offx.toNat ≤ 0xFFFF → a.y0.toNat + a.offy.toNat ≤ 0xFFFF →
      exec .setPixel s = .next (State.startedWith s 0x11 0
        (win s.cfg (a.x0.toNat + a.offx.toNat) (a.y0.toNat + a.offy.toNat)
          (a.x0.toNat + a.offx.toNat) (a.y0.toNat + a.offy.toNat) ++ [.cmd s.cfg.opRamwr] ++ fill s.cfg s.color 1) .finish))

/-- R191, R193, R188: SET_PIXELS and BLIT send their window and the memory-write command and will open a stream. -/
def Obligations.SetPixelsAndBlitStart : Prop :=
  ∀ s : State, s.accepting → s.session = .ready →
    let a := s.operands
    (a.x0.toNat ≤ a.x1.toNat → a.y0.toNat ≤ a.y1.toNat →
      a.x1.toNat + a.offx.toNat ≤ 0xFFFF → a.y1.toNat + a.offy.toNat ≤ 0xFFFF →
      exec .setPixels s = .next (State.startedWith s 0x12 0
        (win s.cfg (a.x0.toNat + a.offx.toNat) (a.y0.toNat + a.offy.toNat)
          (a.x1.toNat + a.offx.toNat) (a.y1.toNat + a.offy.toNat) ++ [.cmd s.cfg.opRamwr]) .openStream)) ∧
    (a.aux.toNat = a.x1.toNat * a.y1.toNat * 2 → 1 ≤ a.x1.toNat → 1 ≤ a.y1.toNat →
      a.x0.toNat + a.x1.toNat - 1 + a.offx.toNat ≤ 0xFFFF → a.y0.toNat + a.y1.toNat - 1 + a.offy.toNat ≤ 0xFFFF →
      exec .blit s = .next (State.startedWith s 0x13 0
        (win s.cfg (a.x0.toNat + a.offx.toNat) (a.y0.toNat + a.offy.toNat)
          (a.x0.toNat + a.x1.toNat - 1 + a.offx.toNat) (a.y0.toNat + a.y1.toNat - 1 + a.offy.toNat) ++
         [.cmd s.cfg.opRamwr]) .openStream))

/-- R195: END_STREAM taken: with bytes in the buffer they become the last chunk; with none and nothing owed the operation ends at once,
with STREAM_SHORT when bytes were still expected. -/
def Obligations.EndStreamCloses : Prop :=
  ∀ s : State, s.seq.phase = .wait → s.seq.stream ≠ .none → s.seq.todo = [] →
    (s.seq.buf ≠ [] →
      exec .endStream s = .next { s with seq := { s.seq with stream := .none, todo := [.data s.seq.buf], buf := [], phase := .run } }) ∧
    (s.seq.buf = [] → s.seq.op ≠ 0x02 → s.seq.op ≠ 0x03 →
      exec .endStream s = .next { s with
        err := if s.seq.remaining = 0 then .none else .streamShort
        seq := { s.seq with stream := .none, phase := .idle } })

/-- R220: DRAW_RECT is one window, one memory-write and one colour word per pixel. -/
def Obligations.DrawRectStarts : Prop :=
  ∀ s : State, s.accepting → s.session = .ready →
    let a := s.operands
    a.x0.toNat ≤ a.x1.toNat → a.y0.toNat ≤ a.y1.toNat →
    a.x1.toNat + a.offx.toNat ≤ 0xFFFF → a.y1.toNat + a.offy.toNat ≤ 0xFFFF →
    exec .drawRect s = .next (State.startedWith s 0x20 0
      (win s.cfg (a.x0.toNat + a.offx.toNat) (a.y0.toNat + a.offy.toNat)
        (a.x1.toNat + a.offx.toNat) (a.y1.toNat + a.offy.toNat) ++ [.cmd s.cfg.opRamwr] ++
       fill s.cfg s.color ((a.x1.toNat - a.x0.toNat + 1) * (a.y1.toNat - a.y0.toNat + 1))) .finish)

/-- R221, R222: DRAW_HLINE and DRAW_VLINE are the degenerate rectangles; the one does not read `y1`, the other `x1`. -/
def Obligations.AxisLinesStart : Prop :=
  ∀ s : State, s.accepting → s.session = .ready →
    let a := s.operands
    (a.x0.toNat ≤ a.x1.toNat → a.x1.toNat + a.offx.toNat ≤ 0xFFFF → a.y0.toNat + a.offy.toNat ≤ 0xFFFF →
      exec .drawHline s = .next (State.startedWith s 0x21 0
        (win s.cfg (a.x0.toNat + a.offx.toNat) (a.y0.toNat + a.offy.toNat)
          (a.x1.toNat + a.offx.toNat) (a.y0.toNat + a.offy.toNat) ++ [.cmd s.cfg.opRamwr] ++
         fill s.cfg s.color (a.x1.toNat - a.x0.toNat + 1)) .finish)) ∧
    (a.y0.toNat ≤ a.y1.toNat → a.x0.toNat + a.offx.toNat ≤ 0xFFFF → a.y1.toNat + a.offy.toNat ≤ 0xFFFF →
      exec .drawVline s = .next (State.startedWith s 0x22 0
        (win s.cfg (a.x0.toNat + a.offx.toNat) (a.y0.toNat + a.offy.toNat)
          (a.x0.toNat + a.offx.toNat) (a.y1.toNat + a.offy.toNat) ++ [.cmd s.cfg.opRamwr] ++
         fill s.cfg s.color (a.y1.toNat - a.y0.toNat + 1)) .finish))

/-- R223, R225 to R230: DRAW_LINE's three cases, the general case as one PLOT per pixel of R228 or R229 in order. -/
def Obligations.DrawLineStarts : Prop :=
  ∀ s : State, s.accepting → s.session = .ready →
    let a := s.operands
    let c := s.cfg
    let x0 := a.x0.toNat
    let y0 := a.y0.toNat
    let x1 := a.x1.toNat
    let y1 := a.y1.toNat
    let ax := max x0 x1 - min x0 x1
    let ay := max y0 y1 - min y0 y1
    let rounded (n d : Nat) : Nat := if c.lineRounding = .nearest then (2 * n + d) / (2 * d) else n / d
    let moved (v w k : Nat) : Nat := if v < w then v + k else v - k
    max x0 x1 + a.offx.toNat ≤ 0xFFFF → max y0 y1 + a.offy.toNat ≤ 0xFFFF →
    (x0 = x1 →
      exec .drawLine s = .next (State.startedWith s 0x23 0
        (win c (x0 + a.offx.toNat) (min y0 y1 + a.offy.toNat) (x0 + a.offx.toNat) (max y0 y1 + a.offy.toNat) ++
         [.cmd c.opRamwr] ++ fill c s.color (ay + 1)) .finish)) ∧
    (x0 ≠ x1 → y0 = y1 →
      exec .drawLine s = .next (State.startedWith s 0x23 0
        (win c (min x0 x1 + a.offx.toNat) (y0 + a.offy.toNat) (max x0 x1 + a.offx.toNat) (y0 + a.offy.toNat) ++
         [.cmd c.opRamwr] ++ fill c s.color (ax + 1)) .finish)) ∧
    (x0 ≠ x1 → y0 ≠ y1 → ay < ax →
      exec .drawLine s = .next (State.startedWith s 0x23 0
        ((List.range (ax + 1)).flatMap fun k => plot c a (moved x0 x1 k) (moved y0 y1 (rounded (ay * k) ax))) .finish)) ∧
    (x0 ≠ x1 → y0 ≠ y1 → ax ≤ ay →
      exec .drawLine s = .next (State.startedWith s 0x23 0
        ((List.range (ay + 1)).flatMap fun k => plot c a (moved x0 x1 (rounded (ax * k) ay)) (moved y0 y1 k)) .finish))

/-- R235, R237 to R239: DRAW_CIRCLE is the eight PLOTs of each `x` in 0 .. XE(r), in order. -/
def Obligations.DrawCircleStarts : Prop :=
  ∀ s : State, s.accepting → s.session = .ready →
    let a := s.operands
    let cx := a.x0.toNat
    let cy := a.y0.toNat
    let r := (s.arg2.extractLsb' 0 16).toNat
    r ≤ cx → r ≤ cy → cx + r + a.offx.toNat ≤ 0xFFFF → cy + r + a.offy.toNat ≤ 0xFFFF →
    exec .drawCircle s = .next (State.startedWith s 0x24 0
      ((List.range ((Nat.sqrt (2 * r * r) + 1) / 2 + 1)).flatMap fun x =>
        let y := Nat.sqrt (r * r - x * x)
        plot s.cfg a (cx + x) (cy + y) ++ plot s.cfg a (cx - x) (cy + y) ++
        plot s.cfg a (cx + x) (cy - y) ++ plot s.cfg a (cx - x) (cy - y) ++
        plot s.cfg a (cx + y) (cy + x) ++ plot s.cfg a (cx - y) (cy + x) ++
        plot s.cfg a (cx + y) (cy - x) ++ plot s.cfg a (cx - y) (cy - x)) .finish)

/-- R243, R244: FILL_CIRCLE is two columns for each `x` in 0 .. r - 1, and ends at once for r = 0. -/
def Obligations.FillCircleStarts : Prop :=
  ∀ s : State, s.accepting → s.session = .ready →
    let a := s.operands
    let cx := a.x0.toNat
    let cy := a.y0.toNat
    let r := (s.arg2.extractLsb' 0 16).toNat
    let column (v y : Nat) : List Txn :=
      win s.cfg (v + a.offx.toNat) (cy - y + a.offy.toNat) (v + a.offx.toNat) (cy + y + a.offy.toNat) ++
      [.cmd s.cfg.opRamwr] ++ fill s.cfg s.color (2 * y + 1)
    r ≤ cx → r ≤ cy → cx + r + a.offx.toNat ≤ 0xFFFF → cy + r + a.offy.toNat ≤ 0xFFFF →
    (r = 0 → exec .fillCircle s = .next (State.endedAtOnce s 0x25 0)) ∧
    (r ≠ 0 → exec .fillCircle s = .next (State.startedWith s 0x25 0
      ((List.range r).flatMap fun x =>
        column (cx + x) (Nat.sqrt (r * r - x * x)) ++ column (cx - x) (Nat.sqrt (r * r - x * x))) .finish))

/-- R247 to R249: DRAW_GLYPH plots the set bits, columns outside and rows inside, left and up from the anchor;
a glyph with no set bit ends at once. The sequencer also holds the five column bytes, the model's own field and choice, no rule's (log 4). -/
def Obligations.DrawGlyphStarts : Prop :=
  ∀ (s : State) (ch : Byte), s.accepting → s.session = .ready →
    let a := s.operands
    let x0 := a.x0.toNat
    let y0 := a.y0.toNat
    let bits (col : Nat) : Byte := fontColumn s.cfg (s.arg2.extractLsb' 0 8) ch col
    4 ≤ x0 → 6 ≤ y0 → x0 + a.offx.toNat ≤ 0xFFFF → y0 + a.offy.toNat ≤ 0xFFFF →
    ((∀ col < 5, ∀ row < 7, (bits col).getLsbD row = false) →
      exec (.drawGlyph ch) s = .next (State.endedAtOnce s 0x26 ch ((List.range 5).map bits))) ∧
    ((∃ col < 5, ∃ row < 7, (bits col).getLsbD row = true) →
      exec (.drawGlyph ch) s = .next (State.startedWith s 0x26 ch
        ((List.range 5).flatMap fun col => (List.range 7).flatMap fun row =>
          if (bits col).getLsbD row = true then plot s.cfg a (x0 - col) (y0 - row) else []) .finish ((List.range 5).map bits)))

/-- R99, R312, S6, R6: the font port's table changes. With no DRAW_GLYPH running only the table does. With one running, of which `sent` is sent, the
columns of the PLOTs begun, `read` of them, stay as they were; each later column is the old or the new one as drawn, so that every mix of them is some
draw's; and with nothing left to plot the operation ends. (Which columns have been read is taken from R249's loop, log 4.) -/
def Obligations.FontChangeMixesOnlyLaterColumns : Prop :=
  ∀ (s : State) (table : List Glyph) (takeNew : List Bool) (rest : List Input),
    s.inputs = .fontChange table takeNew :: rest →
    let c : Config := { s.cfg with font := table }
    let a := s.seq.args
    let owedBy (cols : List Byte) : List Txn := (List.range 5).flatMap fun col => (List.range 7).flatMap fun row =>
      if (cols[col]?.getD 0).getLsbD row = true then plot s.cfg a (a.x0.toNat - col) (a.y0.toNat - row) else []
    (¬ (s.seq.phase = .run ∧ s.seq.op = 0x26) → step s = .next { s with inputs := rest, cfg := c }) ∧
    (∀ (sent : List Txn) (read : Nat),
      Inv s → s.seq.phase = .run → s.seq.op = 0x26 → sent ++ s.seq.todo = owedBy s.seq.columns →
      (read = 0 ∧ sent = []) ∨
        (1 ≤ read ∧ read ≤ 5 ∧ (owedBy (s.seq.columns.take (read - 1))).length < sent.length ∧
          sent.length ≤ (owedBy (s.seq.columns.take read)).length) →
      ∃ cols : List Byte,
        (cols.length = 5 ∧ ∀ i < 5, cols[i]? = some (if read ≤ i ∧ takeNew[i]? = some true
          then fontColumn c (a.aux.extractLsb' 0 8) s.seq.sub i else s.seq.columns[i]?.getD 0)) ∧
        owedBy (s.seq.columns.take read) <+: owedBy cols ∧
        ((owedBy cols).drop sent.length ≠ [] → step s = .next { s with
          inputs := rest, cfg := c, seq := { s.seq with columns := cols, todo := (owedBy cols).drop sent.length } }) ∧
        ((owedBy cols).drop sent.length = [] → step s = .next { s with
          inputs := rest, cfg := c, err := .none, seq := { s.seq with columns := cols, todo := [], buf := [], phase := .idle } }))

/-! ## The sequencer -/

/-- R86, R275, R153, R156, R158, R191, R193: an OK answer records the transaction with its pairs, and what follows: the next transaction owed (case (a)),
WAIT for an open stream (b), the opening of the operation's stream (c), or the operation's end with its completion effect (d).
The model's choices, both only in states no run reaches: what an opening does to a buffer that is not empty (log 13), and that INIT and SET_ORIENTATION
with bytes still expected take their completion effect beside STREAM_SHORT, as R275 (d) is written and R57 and R59 are not (log 12). -/
def Obligations.OkAnswerDecidesWhatFollows : Prop :=
  ∀ (s : State) (t : Txn) (more : List Txn) (a : Answer) (rest : List Input),
    s.seq.phase = .run → s.seq.todo = t :: more → s.inputs = .answer a :: rest → a.response = .ok →
    let u : State := { s with inputs := rest, history := s.history ++ [⟨t, .ok, t.pairs⟩] }
    (more ≠ [] → step s = .next { u with seq := { s.seq with todo := more } }) ∧
    (more = [] → s.seq.stream ≠ .none → step s = .next { u with seq := { s.seq with todo := [], phase := .wait } }) ∧
    (more = [] → s.seq.stream = .none → s.seq.next = .openStream → s.seq.op = 0x12 →
      step s = .next { u with seq := { s.seq with todo := [], stream := .pixels, buf := [], next := .finish, phase := .wait } }) ∧
    (more = [] → s.seq.stream = .none → s.seq.next = .openStream → s.seq.op = 0x13 →
      step s = .next { u with seq := { s.seq with
        todo := [], stream := .bytes, remaining := s.seq.args.aux, buf := [], next := .finish, phase := .wait } }) ∧
    (more = [] → s.seq.stream = .none → s.seq.next = .openStream → s.seq.op = 0x04 →
      step s = .next { u with seq := { s.seq with
        todo := [], stream := .bytes, remaining := s.seq.args.aux &&& 0x0000FFFF, next := .finish, phase := .wait } }) ∧
    (more = [] → s.seq.stream = .none → s.seq.next = .finish →
      step s = .next { u with
        err := if s.seq.remaining = 0 then .none else .streamShort
        session := if s.seq.op = 0x02 then .ready else s.session
        orient := if s.seq.op = 0x02 ∨ s.seq.op = 0x03 then s.seq.sub.extractLsb' 0 2 else s.orient
        seq := { s.seq with todo := [], buf := [], phase := .idle } })

/-- R271, R276: a failure ends the operation with its code and nothing else of the state changes; the host's later stream writes are dropped. -/
def Obligations.FailureEndsTheOperation : Prop :=
  ∀ (s : State) (t : Txn) (more : List Txn) (a : Answer) (rest : List Input) (code : ErrCode),
    s.seq.phase = .run → s.seq.todo = t :: more → s.inputs = .answer a :: rest → responseAllowed s.cfg t a.response = true →
    ((a.response = .failTransport ∧ code = .transport) ∨ (a.response = .failDc ∧ code = .dcPin) ∨
     (a.response = .failPin ∧ code = .resetPin)) →
    ∃ u, step s = .next u ∧
      u = { s with
        inputs := rest, history := s.history ++ [⟨t, a.response, delivery t a⟩], err := code
        seq := { s.seq with todo := [], buf := [], stream := .none, phase := .idle } } ∧
      (∀ w later, step { u with inputs := .hostWrite 4 0x24 w :: later } = .next { u with inputs := later, ovr := true }) ∧
      (∀ later, step { u with inputs := .hostWrite 4 0x00 0x0000001F :: later } = .next { u with inputs := later, ovr := true })

/-- R272 to R275, R95: an operation whose transactions are all answered OK sends them in order and completes. -/
def Obligations.OperationRunsToCompletion : Prop :=
  ∀ (s : State) (answers : List Answer) (rest : List Input),
    s.seq.phase = .run → s.seq.todo ≠ [] → s.seq.stream = .none → s.seq.next = .finish → s.seq.remaining = 0 →
    answers.length = s.seq.todo.length → (∀ a ∈ answers, a.response = .ok) → s.inputs = answerInputs answers ++ rest →
    runSteps answers.length s = .next { s with
      inputs := rest
      history := s.history ++ okEvents s.seq.todo
      err := .none
      session := if s.seq.op = 0x02 then .ready else s.session
      orient := if s.seq.op = 0x02 ∨ s.seq.op = 0x03 then s.seq.sub.extractLsb' 0 2 else s.orient
      seq := { s.seq with todo := [], buf := [], phase := .idle } }

/-- R276, R280(b): the first failed transaction ends the operation; what was answered OK stays and nothing later is sent. -/
def Obligations.FirstFailureCutsTheOperation : Prop :=
  ∀ (s : State) (sent : List Txn) (t : Txn) (unsent : List Txn) (answers : List Answer) (f : Answer) (rest : List Input),
    s.seq.phase = .run → s.seq.todo = sent ++ t :: unsent →
    answers.length = sent.length → (∀ a ∈ answers, a.response = .ok) →
    responseAllowed s.cfg t f.response = true → f.response ≠ .ok →
    s.inputs = answerInputs answers ++ .answer f :: rest →
    runSteps (sent.length + 1) s = .next { s with
      inputs := rest
      history := s.history ++ okEvents sent ++ [⟨t, f.response, delivery t f⟩]
      err := f.response.errCode
      seq := { s.seq with todo := [], buf := [], stream := .none, phase := .idle } }

/-- R150, R153, R156, R159, R160: the session operations from the CMD write to their end, every transaction answered OK. -/
def Obligations.SessionOperationsRunThrough : Prop :=
  ∀ (s : State) (sub : Byte) (answers : List Answer) (rest : List Input),
    s.accepting → sub.toNat < 4 → (∀ a ∈ answers, a.response = .ok) →
    (s.cfg.hasResetPin = true → answers.length = 6 → s.inputs = .hostWrite 4 0x00 0x00000001 :: (answerInputs answers ++ rest) →
      ∃ t, runSteps 7 s = .next t ∧ t.session = .uninit ∧ t.orient = s.orient ∧ t.err = .none ∧ t.seq.phase = .idle ∧
        t.wire = s.wire ∧
        t.history = s.history ++ okEvents
          [.pin true, .delay s.cfg.tRst, .pin false, .delay s.cfg.tRst, .pin true, .delay s.cfg.tRst]) ∧
    (answers.length = (if s.cfg.invertOn = true then 13 else 12) →
      s.inputs = .hostWrite 4 0x00 (encode (.init sub)) :: (answerInputs answers ++ rest) →
      ∃ t, runSteps (answers.length + 1) s = .next t ∧ t.session = .ready ∧ t.orient.toNat = sub.toNat ∧ t.err = .none ∧
        t.seq.phase = .idle) ∧
    (s.session = .ready → answers.length = 2 →
      s.inputs = .hostWrite 4 0x00 (encode (.setOrientation sub)) :: (answerInputs answers ++ rest) →
      ∃ t mode, runSteps 3 s = .next t ∧ t.session = .ready ∧ t.orient.toNat = sub.toNat ∧ t.err = .none ∧ t.seq.phase = .idle ∧
        t.wire = s.wire ++ [⟨.cmd, s.cfg.opMadctl⟩, ⟨.data, mode⟩] ∧ (readReg t 0x20).extractLsb' 8 8 = mode) ∧
    (answers.length = 1 → s.inputs = .hostWrite 4 0x00 0x00000005 :: (answerInputs answers ++ rest) →
      ∃ t, runSteps 2 s = .next t ∧ t.session = s.session ∧ t.orient = s.orient ∧ t.err = .none ∧ t.seq.phase = .idle ∧
        t.history = s.history ++ okEvents [.delay s.arg2])

/-! ## Streams -/

/-- R96, R186, R58: a datum of an open stream is taken, and its bytes follow everything the block already owes the wire. -/
def Obligations.DatumFollowsEverythingOwed : Prop :=
  ∀ (s : State) (w : Word) (rest : List Input),
    s.seq.phase ≠ .run → s.seq.stream ≠ .none → s.inputs = .hostWrite 4 0x24 w :: rest →
    ∃ t, step s = .next t ∧
      (s.seq.stream = .pixels → t.wire ++ t.owedPairs = s.wire ++ s.owedPairs ++ (pix s.cfg w).map (fun b => ⟨.data, b⟩)) ∧
      (s.seq.stream = .bytes → t.wire ++ t.owedPairs = s.wire ++ s.owedPairs ++ [⟨.data, w.extractLsb' 0 8⟩])

/-- R185, R58: an OK answer never alters the logical byte stream: what is on the wire followed by what is owed. -/
def Obligations.OkAnswerKeepsTheByteStream : Prop :=
  ∀ (s : State) (a : Answer) (rest : List Input),
    Inv s → s.seq.phase = .run → s.inputs = .answer a :: rest → a.response = .ok →
    ∃ t, step s = .next t ∧ t.wire ++ t.owedPairs = s.wire ++ s.owedPairs

/-- R184, R186, R310: a datum that is not a BYTES stream's last. When it fills no chunk it only goes into the buffer and BUSY stays 0;
when the buffer reaches `B` bytes its front is owed in pieces of exactly `B`, the rest stays buffered, and the sequencer runs. -/
def Obligations.DatumIsBufferedOrFillsChunks : Prop :=
  ∀ (s : State) (w : Word) (rest : List Input),
    s.seq.phase = .wait → s.seq.todo = [] → s.inputs = .hostWrite 4 0x24 w :: rest →
    (s.seq.stream = .pixels → s.seq.buf.length + (pix s.cfg w).length < s.cfg.batchBytes →
      step s = .next { s with inputs := rest, seq := { s.seq with buf := s.seq.buf ++ pix s.cfg w } }) ∧
    (s.seq.stream = .bytes → s.seq.buf.length + 1 < s.cfg.batchBytes → s.seq.remaining ≠ 1 →
      step s = .next { s with
        inputs := rest
        seq := { s.seq with remaining := s.seq.remaining - 1, buf := s.seq.buf ++ [w.extractLsb' 0 8] } }) ∧
    (∀ bytes : List Byte,
      (s.seq.stream = .pixels ∧ bytes = pix s.cfg w) ∨ (s.seq.stream = .bytes ∧ s.seq.remaining ≠ 1 ∧ bytes = [w.extractLsb' 0 8]) →
      1 ≤ s.cfg.batchBytes → s.cfg.batchBytes ≤ (s.seq.buf ++ bytes).length →
      ∃ (pieces : List (List Byte)) (left : List Byte),
        step s = .next { s with
          inputs := rest
          seq := { s.seq with
            remaining := if s.seq.stream = .bytes then s.seq.remaining - 1 else s.seq.remaining
            todo := pieces.map Txn.data, buf := left, phase := .run } } ∧
        (∀ p ∈ pieces, p.length = s.cfg.batchBytes) ∧ left.length < s.cfg.batchBytes ∧
        pieces.flatten ++ left = s.seq.buf ++ bytes)

/-- R196: a BYTES stream closes itself with its last byte; every byte it still buffered is then owed, cut into chunks. -/
def Obligations.LastByteClosesTheStream : Prop :=
  ∀ (s : State) (w : Word) (rest : List Input),
    s.seq.phase = .wait → s.seq.stream = .bytes → s.seq.remaining = 1 → s.inputs = .hostWrite 4 0x24 w :: rest →
    step s = .next { s with
      inputs := rest
      seq := { s.seq with
        stream := .none, remaining := 0, buf := [], phase := .run
        todo := s.seq.todo ++ chunks s.cfg (s.seq.buf ++ [w.extractLsb' 0 8]) } }

/-! ## The whole machine -/

/-- R8, R56, R58, R84, R270, R275, R283: every step keeps the sequencer's invariant. -/
def Obligations.EveryStepKeepsTheInvariant : Prop :=
  ∀ s t : State, Inv s → step s = .next t → Inv t

/-- The invariant holds after reset, for every valid configuration. -/
def Obligations.InvariantHoldsAtReset : Prop :=
  Inv State.reset ∧ ∀ c : Config, c.valid = true → Inv (State.resetWith c)

/-- R57, R59: the only events that change the session or the orientation code. -/
def Obligations.SessionAndOrientationChangeOnlyBy : Prop :=
  ∀ s t : State, Inv s → step s = .next t →
    (t.session ≠ s.session →
      ((∃ d m, s.inputs.head? = some (.blockReset d m)) ∧ t.session = .uninit) ∨
      (s.inputs.head? = some (.hostWrite 4 0x00 0x00000001) ∧ t.session = .uninit) ∨
      (s.seq.phase = .run ∧ s.seq.op = 0x02 ∧ t.session = .ready ∧ t.seq.phase = .idle ∧ t.err = .none)) ∧
    (t.orient ≠ s.orient →
      ((∃ d m, s.inputs.head? = some (.blockReset d m)) ∧ t.orient = 0) ∨
      (s.seq.phase = .run ∧ (s.seq.op = 0x02 ∨ s.seq.op = 0x03) ∧ t.orient = s.seq.sub.extractLsb' 0 2 ∧
        t.seq.phase = .idle ∧ t.err = .none))

/-- R40, R86, R95, R312: no step changes the parameters, but that the font port may change its table (log 4), and only a running operation's
answered transaction extends the event history, by one entry; only block reset empties it, and only it adds to the abandoned transactions (log 10). -/
def Obligations.ParametersStayAndHistoryGrowsByOne : Prop :=
  ∀ s t : State, step s = .next t →
    (t.cfg = s.cfg ∨ ∃ table takeNew, s.inputs.head? = some (.fontChange table takeNew) ∧ t.cfg = { s.cfg with font := table }) ∧
    ((∀ d m, s.inputs.head? ≠ some (.blockReset d m)) →
      t.abandoned = s.abandoned ∧
      (t.history = s.history ∨ ∃ e, s.seq.phase = .run ∧ s.seq.todo.head? = some e.txn ∧ t.history = s.history ++ [e]))

/-- R51, R83, R300, R313, R320: no host access, whatever it is, changes a running operation or its result; nor does the late answer to a transaction
that an earlier block reset abandoned. -/
def Obligations.HostAccessLeavesARunningOperationAlone : Prop :=
  ∀ (s t : State) (i : Input) (rest : List Input),
    s.seq.phase = .run → s.inputs = i :: rest →
    (∃ width off, i = .hostRead width off) ∨ (∃ width off v, i = .hostWrite width off v) ∨ (∃ a, i = .lateAnswer a) → step s = .next t →
    t.seq = s.seq ∧ t.history = s.history ∧ t.session = s.session ∧ t.orient = s.orient ∧ t.err = s.err

/-- R9, R94: the screen's width and height play no part in any command: changing them changes nothing else of what it does. -/
def Obligations.ScreenSizeIsNeverChecked : Prop :=
  ∀ (i : Instr) (s : State) (w h : Half),
    ∃ t, exec i s = .next t ∧
      exec i { s with cfg := { s.cfg with width := w, height := h } } =
        .next { t with cfg := { t.cfg with width := w, height := h } }

/-- R97(a): STATUS with BUSY = 0 and STREAM = 0 proves that nothing is owed and nothing is buffered. -/
def Obligations.QuietStatusMeansEverythingSent : Prop :=
  ∀ s : State, Inv s → (readReg s 0x04).getLsbD 0 = false → (readReg s 0x04).getLsbD 2 = false →
    s.seq.phase = .idle ∧ s.seq.todo = [] ∧ s.seq.buf = []

/-- R161: an operation that draws sends no opcode but the window and memory-write commands, drives no pin and asks for no delay;
a session operation sends neither windows nor memory-write of its own choice. -/
def Obligations.OperationsSendOnlyTheirOpcodes : Prop :=
  ∀ (i : Instr) (s t : State), s.accepting → exec i s = .next t → t.seq.phase = .run →
    (i ∈ ([.setWindow, .setPixel, .setPixels, .blit, .drawRect, .drawHline, .drawVline, .drawLine, .drawCircle, .fillCircle] : List Instr) ∨
      (∃ ch, i = .drawGlyph ch) →
      ∀ x ∈ t.seq.todo, (∃ l, x = .data l) ∨ x = .cmd s.cfg.opCaset ∨ x = .cmd s.cfg.opRaset ∨ x = .cmd s.cfg.opRamwr) ∧
    (i = .hardReset ∨ i = .delay → ∀ x ∈ t.seq.todo, x.pairs = []) ∧
    ((∃ sub, i = .init sub) → ∀ b, Txn.cmd b ∈ t.seq.todo →
      b ∈ [s.cfg.opSwreset, s.cfg.opSlpout, s.cfg.opColmod, s.cfg.opMadctl, s.cfg.opInvon, s.cfg.opNoron, s.cfg.opDispon]) ∧
    ((∃ sub, i = .setOrientation sub) → ∀ b, Txn.cmd b ∈ t.seq.todo → b = s.cfg.opMadctl) ∧
    (∀ op, i = .sendCmd op → t.seq.todo = [.cmd op])

/-! ## The register window -/

/-- R48, R270: STATUS's fields, its reset value, its read and its write-one-to-clear bit, and the numbers of the error codes. -/
def Obligations.StatusRegister : Prop :=
  (ErrCode.code .none = 0 ∧ ErrCode.code .transport = 1 ∧ ErrCode.code .resetPin = 2 ∧ ErrCode.code .dcPin = 3 ∧
    ErrCode.code .invalidInput = 4 ∧ ErrCode.code .notReady = 5 ∧ ErrCode.code .illegalOp = 6 ∧ ErrCode.code .streamShort = 7) ∧
  (∀ c : Config, (State.resetWith c).status = 0) ∧
  ∀ s : State,
    s.status.getLsbD 0 = decide (s.seq.phase = .run) ∧ s.status.getLsbD 1 = decide (s.session = .ready) ∧
    s.status.getLsbD 2 = decide (s.seq.stream ≠ .none) ∧ s.status.getLsbD 3 = s.ovr ∧
    s.status.extractLsb' 4 4 = 0 ∧ s.status.extractLsb' 8 4 = s.err.code ∧ s.status.extractLsb' 12 20 = 0 ∧
    (∀ rest, s.inputs = .hostRead 4 0x04 :: rest →
      step s = .next { s with inputs := rest, reads := s.reads ++ [(0x04, s.status)] }) ∧
    (∀ w rest, s.inputs = .hostWrite 4 0x04 w :: rest →
      step s = .next { s with inputs := rest, ovr := if w.getLsbD 3 = true then false else s.ovr })

/-- R42 to R46, R52 to R55, R80, R82: every defined read has no effect but its value, and what the value is. -/
def Obligations.ReadsHaveNoSideEffect : Prop :=
  ∀ (s : State) (off : Nat) (rest : List Input), off % 4 = 0 → off < 64 → s.inputs = .hostRead 4 off :: rest →
    ∃ v : Word, step s = .next { s with inputs := rest, reads := s.reads ++ [(off, v)] } ∧
      (off = 0x00 ∨ off = 0x24 ∨ 0x28 ≤ off → v = 0) ∧
      (off = 0x04 → v = s.status) ∧ (off = 0x08 → v = s.arg0) ∧ (off = 0x0C → v = s.arg1) ∧ (off = 0x10 → v = s.arg2) ∧ (off = 0x14 → v = s.color) ∧
      (off = 0x18 → v = s.offset) ∧
      (off = 0x1C → v.extractLsb' 0 16 = s.cfg.width ∧ v.extractLsb' 16 16 = s.cfg.height) ∧
      (off = 0x20 → v.extractLsb' 0 2 = s.orient ∧ v.extractLsb' 2 6 = 0 ∧ v.extractLsb' 16 16 = 0 ∧
        (s.orient = 0 → v.extractLsb' 8 8 = s.cfg.orientByte0) ∧ (s.orient = 1 → v.extractLsb' 8 8 = s.cfg.orientByte1) ∧
        (s.orient = 2 → v.extractLsb' 8 8 = s.cfg.orientByte2) ∧ (s.orient = 3 → v.extractLsb' 8 8 = s.cfg.orientByte3))

/-- R43 to R46, R52 to R54, R80, R82: the argument registers store, OFFSET stores when writable, GEOM, ORIENT and the reserved offsets ignore. -/
def Obligations.RegisterWrites : Prop :=
  ∀ (s : State) (off : Nat) (v : Word) (rest : List Input), s.inputs = .hostWrite 4 off v :: rest →
    (off = 0x08 → step s = .next { s with inputs := rest, arg0 := v }) ∧
    (off = 0x0C → step s = .next { s with inputs := rest, arg1 := v }) ∧
    (off = 0x10 → step s = .next { s with inputs := rest, arg2 := v }) ∧
    (off = 0x14 → step s = .next { s with inputs := rest, color := v }) ∧
    (off = 0x18 → step s = .next { s with inputs := rest, offset := if s.cfg.offsetWritable = true then v else s.offset }) ∧
    (off % 4 = 0 → off < 64 → off = 0x1C ∨ off = 0x20 ∨ 0x28 ≤ off → step s = .next { s with inputs := rest })

/-- R80, R287: an access of another width, a misaligned one, and a second master's are refused; an access beyond the 64 bytes is not the block's (log 8). -/
def Obligations.UndefinedAccessesAreRefused : Prop :=
  ∀ (s : State) (width off : Nat) (v : Word) (rest : List Input),
    (s.inputs = .hostRead width off :: rest ∨ s.inputs = .hostWrite width off v :: rest →
      (width ≠ 4 ∨ off % 4 ≠ 0 → step s = .refused .undefinedAccess) ∧
      (width = 4 → off % 4 = 0 → 64 ≤ off → step s = .refused .outsideWindow)) ∧
    (s.inputs = .otherMaster :: rest → step s = .refused .secondMaster)

/-- R60, R300, R301, R303, R88: what reset leaves; that block reset does so from any state, sends nothing and keeps the parameters; that an outstanding
transaction is abandoned with a drawn part of it delivered, every such part some draw's; and that its late answer is ignored whatever runs by then.
The records of the abandoned transactions and of the host's reads are the model's own (logs 9, 10). -/
def Obligations.ResetValues : Prop :=
  (∀ (s : State) (delivered : Nat) (modes : List WireMode) (rest : List Input), s.inputs = .blockReset delivered modes :: rest →
    (s.seq.phase ≠ .run →
      step s = .next { State.resetWith s.cfg with abandoned := s.abandoned, reads := s.reads, inputs := rest }) ∧
    (∀ x more, s.seq.phase = .run → s.seq.todo = x :: more → ∃ ps : List WirePair,
      step s = .next { State.resetWith s.cfg with abandoned := s.abandoned ++ [⟨x, ps⟩], reads := s.reads, inputs := rest } ∧
      ps.map WirePair.byte <+: x.pairs.map WirePair.byte ∧ (s.cfg.transport = .generic → ps <+: x.pairs))) ∧
  (∀ (s : State) (x : Txn) (more : List Txn) (ps : List WirePair) (rest : List Input),
    s.seq.phase = .run → s.seq.todo = x :: more →
    ps <+: x.pairs ∨ (s.cfg.transport = .spiDcPin ∧ ps.map WirePair.byte <+: x.pairs.map WirePair.byte) →
    ∃ delivered modes, step { s with inputs := .blockReset delivered modes :: rest } =
      .next { State.resetWith s.cfg with abandoned := s.abandoned ++ [⟨x, ps⟩], reads := s.reads, inputs := rest }) ∧
  (∀ (s : State) (a : Answer) (rest : List Input), s.inputs = .lateAnswer a :: rest → step s = .next { s with inputs := rest }) ∧
  (∀ c : Config, ∀ s, s = State.resetWith c →
    s.cfg = c ∧ s.arg0 = 0 ∧ s.arg1 = 0 ∧ s.arg2 = 0 ∧ s.color = 0 ∧
    s.offset.toNat = c.offsetResetY.toNat * 2 ^ 16 + c.offsetResetX.toNat ∧
    s.session = .uninit ∧ s.orient = 0 ∧ s.err = .none ∧ s.ovr = false ∧ s.status = 0 ∧ s.history = [] ∧
    s.seq.phase = .idle ∧ s.seq.stream = .none ∧ s.seq.buf = [] ∧ s.seq.todo = [] ∧ s.seq.remaining = 0 ∧ s.seq.next = .finish ∧
    s.seq.op = 0 ∧ s.seq.sub = 0 ∧ s.seq.args = ⟨0, 0, 0, 0, 0, 0, 0, 0⟩ ∧
    (readReg s 0x1C).toNat = c.height.toNat * 2 ^ 16 + c.width.toNat)

/-! ## The transport -/

/-- R87: which responses a transaction takes; any other is refused, for it breaks the environment's obligation (R286, log 6). -/
def Obligations.ResponseSets : Prop :=
  ∀ (s : State) (t : Txn) (more : List Txn) (a : Answer) (rest : List Input),
    s.seq.phase = .run → s.seq.todo = t :: more → s.inputs = .answer a :: rest →
    (step s = .refused .responseOutsideSet ↔
      ¬ (a.response = .ok ∨
         (((∃ b, t = .cmd b) ∨ ∃ l, t = .data l) ∧
           (a.response = .failTransport ∨ (a.response = .failDc ∧ s.cfg.transport = .spiDcPin))) ∨
         ((∃ level, t = .pin level) ∧ a.response = .failPin))) ∧
    (∀ r, step s = .refused r → r = .responseOutsideSet) ∧ (∀ r, step s ≠ .fault r)

/-- R86, R88: an OK transaction delivers all of itself; a FAIL_TRANSPORT any prefix and nothing else; a FAIL_DC any prefix with any modes.
A pin and a delay put nothing on the wire, whatever the answer (R86; FAIL_PIN is a pin's only failure, R87). -/
def Obligations.DeliveryOfATransaction : Prop :=
  (∀ (level : Bool) (a : Answer), delivery (.pin level) a = []) ∧ (∀ (us : Word) (a : Answer), delivery (.delay us) a = []) ∧
  ∀ t : Txn,
    (∀ a : Answer, a.response = .ok → delivery t a = t.pairs) ∧
    (∀ a : Answer, a.response = .failTransport → delivery t a <+: t.pairs) ∧
    (∀ ps, ps <+: t.pairs → ∃ a : Answer, a.response = .failTransport ∧ delivery t a = ps) ∧
    (∀ a : Answer, a.response = .failDc → (delivery t a).map WirePair.byte <+: t.pairs.map WirePair.byte) ∧
    (∀ ps : List WirePair, ps.map WirePair.byte <+: t.pairs.map WirePair.byte →
      ∃ a : Answer, a.response = .failDc ∧ delivery t a = ps)

/-- R184, R185: CHUNKS cuts into pieces of exactly `B` bytes and a last piece of 1 to `B`; joined they are the bytes, whatever `B` is;
and what any command makes the block owe the wire is the same, byte for byte, under another `B`. -/
def Obligations.BatchingChangesNoByte : Prop :=
  (∀ (c : Config) (l : List Byte), 1 ≤ c.batchBytes →
    (chunks c l).flatMap Txn.payload = l ∧
    (∀ (k : Nat) (t : Txn), (chunks c l)[k]? = some t →
      ∃ piece, t = .data piece ∧ 1 ≤ piece.length ∧ piece.length ≤ c.batchBytes ∧
        (k + 1 < (chunks c l).length → piece.length = c.batchBytes)) ∧
    (∀ b, 1 ≤ b → (chunks { c with batchBytes := b } l).flatMap Txn.payload = (chunks c l).flatMap Txn.payload)) ∧
  (∀ (i : Instr) (s : State) (b : Nat), 1 ≤ s.cfg.batchBytes → 1 ≤ b →
    ∃ t u, exec i s = .next t ∧ exec i { s with cfg := { s.cfg with batchBytes := b } } = .next u ∧
      t.seq.todo.flatMap Txn.pairs = u.seq.todo.flatMap Txn.pairs ∧ t.owedPairs = u.owedPairs)

/-- R25, R182, R183, R89: the window's framing and the colour word's bytes, most significant byte first. -/
def Obligations.WindowAndColourBytes : Prop :=
  ∀ (c : Config) (xs ys xe ye color : Word),
    xs.toNat ≤ 0xFFFF → ys.toNat ≤ 0xFFFF → xe.toNat ≤ 0xFFFF → ye.toNat ≤ 0xFFFF →
    win c xs.toNat ys.toNat xe.toNat ye.toNat =
      [.cmd c.opCaset, .data [xs.extractLsb' 8 8, xs.extractLsb' 0 8, xe.extractLsb' 8 8, xe.extractLsb' 0 8],
       .cmd c.opRaset, .data [ys.extractLsb' 8 8, ys.extractLsb' 0 8, ye.extractLsb' 8 8, ye.extractLsb' 0 8]] ∧
    (c.colorMode = .rgb565 → pix c color = [color.extractLsb' 8 8, color.extractLsb' 0 8]) ∧
    (c.colorMode = .rgb888Legacy → pix c color = [color.extractLsb' 16 8, color.extractLsb' 8 8, color.extractLsb' 0 8])

/-! ## Geometry -/

/-- R23: the largest integer whose square does not exceed the argument. -/
def Obligations.IsqrtIsTheFloorRoot : Prop :=
  ∀ n : Nat, isqrt n * isqrt n ≤ n ∧ ∀ y, y * y ≤ n → y ≤ isqrt n

/-- R237: the octant bound without a square root, and that the loop stays within the radius. -/
def Obligations.OctantBoundWithoutRoot : Prop :=
  ∀ r : Nat, octantBound r ≤ r ∧ octantBound r = (isqrt (2 * r * r) + 1) / 2 ∧
    ∀ x : Nat, x ≤ octantBound r ↔ x = 0 ∨ (2 * x - 1) ^ 2 ≤ 2 * r * r

/-- R232, R233: the error-accumulator stepper yields exactly the pixels of R228 and R229. -/
def Obligations.LineStepperIsTheRoundedLine : Prop :=
  ∀ (m : LineRounding) (x0 y0 x1 y1 : Nat), x0 ≠ x1 → y0 ≠ y1 →
    linePixelsStepped m x0 y0 x1 y1 = linePixels m x0 y0 x1 y1

/-- R240: the stepper without square roots gives the same `x` and `y` values as R237 and R238. -/
def Obligations.CircleStepperIsTheRootForm : Prop := ∀ r : Nat, octantPairsStepped r = octantPairs r

/-- R224, R234: a general line starts and ends at its endpoints, has one pixel per unit of its longer axis, is connected, and stays in its box. -/
def Obligations.LineIsConnected : Prop :=
  ∀ (m : LineRounding) (x0 y0 x1 y1 : Nat), x0 ≠ x1 → y0 ≠ y1 →
    let l := linePixels m x0 y0 x1 y1
    l.length = max (absDiff x0 x1) (absDiff y0 y1) + 1 ∧ l.head? = some (x0, y0) ∧ l.getLast? = some (x1, y1) ∧
    (∀ (k : Nat) (p q : Nat × Nat), l[k]? = some p → l[k + 1]? = some q →
      absDiff p.1 q.1 ≤ 1 ∧ absDiff p.2 q.2 ≤ 1 ∧
      (absDiff y0 y1 < absDiff x0 x1 → absDiff p.1 q.1 = 1) ∧ (absDiff x0 x1 ≤ absDiff y0 y1 → absDiff p.2 q.2 = 1)) ∧
    (∀ p ∈ l, min x0 x1 ≤ p.1 ∧ p.1 ≤ max x0 x1 ∧ min y0 y1 ≤ p.2 ∧ p.2 ≤ max y0 y1)

/-- R236, R241: the circle's points lie in its box and are symmetric across both axes and both diagonals through the centre. -/
def Obligations.CircleIsSymmetric : Prop :=
  ∀ cx cy r : Nat, r ≤ cx → r ≤ cy → ∀ x y : Nat, (x, y) ∈ circlePoints cx cy r →
    cx - r ≤ x ∧ x ≤ cx + r ∧ cy - r ≤ y ∧ y ≤ cy + r ∧
    (2 * cx - x, y) ∈ circlePoints cx cy r ∧ (x, 2 * cy - y) ∈ circlePoints cx cy r ∧
    (cx + y - cy, cy + x - cx) ∈ circlePoints cx cy r ∧ (cx + cy - y, cy + cx - x) ∈ circlePoints cx cy r

/-- R198, R246, R319: how many transactions the operations owe, and their command bytes, when a colour word fits a chunk. -/
def Obligations.TransactionCounts : Prop :=
  ∀ (c : Config) (a : Operands), bytesPerColor c ≤ c.batchBytes →
    (∀ x y, (plot c a x y).length = 6 ∧ ((plot c a x y).flatMap Txn.pairs).countP (fun p => p.mode == .cmd) = 3 ∧
      ((plot c a x y).flatMap Txn.pairs).countP (fun p => p.mode == .data) = 8 + bytesPerColor c) ∧
    (∀ x0 y0 x1 y1, (winAt c a x0 y0 x1 y1).length = 4) ∧
    (∀ x0 y0 x1 y1, x0 ≤ x1 → y0 ≤ y1 → (rect c a x0 y0 x1 y1).length =
      5 + ((x1 - x0 + 1) * (y1 - y0 + 1) * bytesPerColor c + c.batchBytes - 1) / c.batchBytes) ∧
    (a.x0 ≠ a.x1 → a.y0 ≠ a.y1 →
      (lineTxns c a).length = 6 * (max (absDiff a.x0.toNat a.x1.toNat) (absDiff a.y0.toNat a.y1.toNat) + 1) ∧
      ((lineTxns c a).flatMap Txn.pairs).countP (fun p => p.mode == .cmd) =
        3 * (max (absDiff a.x0.toNat a.x1.toNat) (absDiff a.y0.toNat a.y1.toNat) + 1)) ∧
    (circleTxns c a).length = 48 * (octantBound a.radius + 1) ∧
    ((circleTxns c a).flatMap Txn.pairs).countP (fun p => p.mode == .cmd) = 24 * (octantBound a.radius + 1) ∧
    (a.radius ≤ a.y0.toNat →
      (discTxns c a).length = ((List.range a.radius).map fun x =>
        2 * (5 + ((2 * chord a.radius x + 1) * bytesPerColor c + c.batchBytes - 1) / c.batchBytes)).sum ∧
      12 * a.radius ≤ (discTxns c a).length) ∧
    (∀ o, (initTxns c o).length = if c.invertOn = true then 13 else 12) ∧
    (hardResetTxns c).length = if c.hasResetPin = true then 6 else 0

/-! ## The reference controller (not normative for the block) -/

/-- R102 to R104: a window, memory-write, and exactly its pixels' bytes paint the window row-major and nothing else, whatever the controller held. -/
def Obligations.WindowIsPaintedRowMajor : Prop :=
  ∀ (c : Config) (p : Panel) (xs ys xe ye : Nat) (bytes : List Byte),
    Config.windowOpcodesDistinct c → xs ≤ xe → ys ≤ ye → xe ≤ 0xFFFF → ye ≤ 0xFFFF →
    bytes.length = (xe - xs + 1) * (ye - ys + 1) * bytesPerColor c →
    let q := Panel.feedAll c p
      ((win c xs ys xe ye ++ [Txn.cmd c.opRamwr]).flatMap Txn.pairs ++ bytes.map fun b => ⟨.data, b⟩)
    ∀ x y : Half,
      (xs ≤ x.toNat → x.toNat ≤ xe → ys ≤ y.toNat → y.toNat ≤ ye →
        q.gram x y = (bytes.drop (((y.toNat - ys) * (xe - xs + 1) + (x.toNat - xs)) * bytesPerColor c)).take (bytesPerColor c)) ∧
      (¬ (xs ≤ x.toNat ∧ x.toNat ≤ xe ∧ ys ≤ y.toNat ∧ y.toNat ≤ ye) → q.gram x y = p.gram x y)

/-- R220, R251: what an accepted DRAW_RECT owes paints every pixel of its rectangle in its colour and no other, whatever the controller held. -/
def Obligations.DrawRectPaintsItsRectangle : Prop :=
  ∀ (s t : State) (p : Panel), s.accepting → Config.windowOpcodesDistinct s.cfg → 1 ≤ s.cfg.batchBytes →
    exec .drawRect s = .next t → t.seq.phase = .run →
    let q := Panel.feedAll s.cfg p (t.seq.todo.flatMap Txn.pairs)
    let a := s.operands
    ∀ x y : Half,
      (a.x0.toNat + a.offx.toNat ≤ x.toNat ∧ x.toNat ≤ a.x1.toNat + a.offx.toNat ∧
        a.y0.toNat + a.offy.toNat ≤ y.toNat ∧ y.toNat ≤ a.y1.toNat + a.offy.toNat → q.gram x y = pix s.cfg s.color) ∧
      (¬ (a.x0.toNat + a.offx.toNat ≤ x.toNat ∧ x.toNat ≤ a.x1.toNat + a.offx.toNat ∧
        a.y0.toNat + a.offy.toNat ≤ y.toNat ∧ y.toNat ≤ a.y1.toNat + a.offy.toNat) → q.gram x y = p.gram x y)

/-- R101, R277, R303: what the history tells of the controller (the reading is the model's, log 19). Nothing after block reset, nothing right after any
failure, and with a reset pin nothing after a failure that an INIT alone followed; but after a hard reset and an INIT, all answered OK, a window answered
OK is the controller's. A controller that followed the whole wire is never excluded. -/
def Obligations.PanelFollowsOnlyFromASyncPoint : Prop :=
  (∀ (c : Config) (p : Panel), Panel.Admitted c [] p) ∧
  (∀ (c : Config) (h : List Event) (p : Panel), Panel.Admitted c h (Panel.feedAll c p (wireOf h))) ∧
  (∀ (c : Config) (h : List Event) (e : Event) (p : Panel), e.response ≠ .ok → Panel.Admitted c (h ++ [e]) p) ∧
  (∀ (c : Config) (h later : List Event) (e : Event) (o : BitVec 2) (p : Panel),
    c.hasResetPin = true → e.response ≠ .ok → (∀ x ∈ later, ∀ level, x.txn ≠ .pin level) →
    Panel.Admitted c (h ++ [e] ++ later ++ okEvents (initTxns c o)) p) ∧
  (∀ (c : Config) (h : List Event) (o : BitVec 2) (xs ys xe ye : Nat) (p : Panel),
    c.opCaset ≠ c.opRaset → c.opSwreset ≠ c.opCaset → c.opSwreset ≠ c.opRaset →
    xs ≤ 0xFFFF → ys ≤ 0xFFFF → xe ≤ 0xFFFF → ye ≤ 0xFFFF →
    Panel.Admitted c (h ++ okEvents (hardResetTxns c) ++ okEvents (initTxns c o) ++ okEvents (win c xs ys xe ye)) p →
    p.cs.toNat = xs ∧ p.ce.toNat = xe ∧ p.rs.toNat = ys ∧ p.re.toNat = ye)
end

