-- ==== Sys2Proof/Laws/Wire.lean ====
section
/-! SUPPORT. Small laws of the wire's byte lists: cutting into chunks, fills, windows, delivery. -/

namespace Sys2Proof.Machine

/-- The full chunks, then what is left, are the bytes (R184). -/
theorem cutFull_payload (b fuel : Nat) (l : List Byte) :
    (cutFull b fuel l).1.flatMap Txn.payload ++ (cutFull b fuel l).2 = l := by
  induction fuel generalizing l with
  | zero => rfl
  | succ n ih =>
    simp only [cutFull]
    split
    · simp [Txn.payload, ih (l.drop b)]
    · rfl

/-- Every full chunk holds exactly `b` bytes (R184). -/
theorem cutFull_sizes (b fuel : Nat) (l : List Byte) :
    ∀ t ∈ (cutFull b fuel l).1, ∃ p, t = .data p ∧ p.length = b ∧ 1 ≤ b := by
  induction fuel generalizing l with
  | zero => simp [cutFull]
  | succ n ih =>
    simp only [cutFull]
    split
    · rename_i h
      intro t ht
      simp only [List.mem_cons] at ht
      rcases ht with rfl | ht
      · exact ⟨_, rfl, by simp; omega, h.1⟩
      · exact ih _ t ht
    · simp

/-- With enough fuel less than a chunk is left (R58). -/
theorem cutFull_left_lt (b fuel : Nat) (l : List Byte) (hb : 1 ≤ b) (hf : l.length ≤ fuel) :
    (cutFull b fuel l).2.length < b := by
  induction fuel generalizing l with
  | zero => simp [cutFull]; omega
  | succ n ih =>
    simp only [cutFull]
    split
    · exact ih _ (by simp; omega)
    · simp only; omega

/-- Fewer bytes than a chunk are all left. -/
theorem cutFull_short (b fuel : Nat) (l : List Byte) (h : l.length < b) : cutFull b fuel l = ([], l) := by
  cases fuel with
  | zero => rfl
  | succ n => simp only [cutFull]; rw [if_neg (by omega)]

@[simp] theorem fullChunks_payload (c : Config) (l : List Byte) :
    (fullChunks c l).flatMap Txn.payload ++ leftOver c l = l := cutFull_payload _ _ _

theorem leftOver_lt (c : Config) (l : List Byte) (h : 1 ≤ c.batchBytes) : (leftOver c l).length < c.batchBytes :=
  cutFull_left_lt _ _ _ h (Nat.le_refl _)

theorem fullChunks_short (c : Config) (l : List Byte) (h : l.length < c.batchBytes) : fullChunks c l = [] := by
  simp [fullChunks, cutFull_short _ _ _ h]

theorem leftOver_short (c : Config) (l : List Byte) (h : l.length < c.batchBytes) : leftOver c l = l := by
  simp [leftOver, cutFull_short _ _ _ h]

/-- The pairs of data transactions are their payloads in data mode. -/
theorem pairs_of_data (l : List Txn) (h : ∀ t ∈ l, ∃ p, t = .data p) :
    l.flatMap Txn.pairs = (l.flatMap Txn.payload).map fun b => ⟨.data, b⟩ := by
  induction l with
  | nil => rfl
  | cons t ts ih =>
    obtain ⟨p, rfl⟩ := h t (by simp)
    have := ih fun x hx => h x (by simp [hx])
    simp [Txn.pairs, Txn.payload, this]

theorem fullChunks_data (c : Config) (l : List Byte) : ∀ t ∈ fullChunks c l, ∃ p, t = .data p := by
  intro t ht
  obtain ⟨p, hp, -⟩ := cutFull_sizes _ _ _ t ht
  exact ⟨p, hp⟩

theorem lastChunk_data (l : List Byte) : ∀ t ∈ lastChunk l, ∃ p, t = .data p := by
  intro t ht
  unfold lastChunk at ht
  split at ht <;> simp_all

@[simp] theorem lastChunk_payload (l : List Byte) : (lastChunk l).flatMap Txn.payload = l := by
  unfold lastChunk
  split <;> simp_all [Txn.payload]

@[simp] theorem lastChunk_nil : lastChunk [] = [] := rfl

/-- A nonempty byte list has a nonempty list of chunks. -/
theorem chunks_ne_nil (c : Config) (l : List Byte) (h : l ≠ []) : chunks c l ≠ [] := by
  intro he
  simp only [chunks, List.append_eq_nil_iff] at he
  have := fullChunks_payload c l
  rw [he.1] at this
  have h2 : lastChunk (leftOver c l) = [] := he.2
  simp only [List.flatMap_nil, List.nil_append] at this
  rw [this] at h2
  unfold lastChunk at h2
  split at h2 <;> simp_all

theorem chunks_data (c : Config) (l : List Byte) : ∀ t ∈ chunks c l, ∃ p, t = .data p := by
  intro t ht
  rcases List.mem_append.mp ht with h | h
  · exact fullChunks_data c l t h
  · exact lastChunk_data _ t h

/-- The pairs of CHUNKS(L) are L in data mode. -/
theorem chunks_pairs (c : Config) (l : List Byte) :
    (chunks c l).flatMap Txn.pairs = l.map fun b => ⟨.data, b⟩ := by
  rw [pairs_of_data _ (chunks_data c l)]
  simp [chunks]

@[simp] theorem bytesPerColor_pos (c : Config) : 0 < bytesPerColor c := by
  unfold bytesPerColor; split <;> decide

@[simp] theorem pix_length (c : Config) (w : Word) : (pix c w).length = bytesPerColor c := by
  unfold pix bytesPerColor; split <;> rfl

theorem pix_ne_nil (c : Config) (w : Word) : pix c w ≠ [] := by
  unfold pix; split <;> simp

/-- Drawing modes changes no byte (R88). -/
@[simp] theorem drawModes_bytes (l : List WirePair) (modes : List WireMode) :
    (drawModes l modes).map WirePair.byte = l.map WirePair.byte := by
  induction l generalizing modes with
  | nil => rfl
  | cons p ps ih => cases modes with
    | nil => rfl
    | cons m ms => simp [drawModes, ih]

@[simp] theorem delivery_ok (t : Txn) (a : Answer) (h : a.response = .ok) : delivery t a = t.pairs := by
  simp [delivery, h]

@[simp] theorem responseAllowed_ok (c : Config) (t : Txn) : responseAllowed c t .ok = true := by
  cases t <;> rfl

@[simp] theorem wireOf_append (h k : List Event) : wireOf (h ++ k) = wireOf h ++ wireOf k := by simp [wireOf]

theorem eventOf_ok (t : Txn) (a : Answer) (h : a.response = .ok) : eventOf t a = ⟨t, .ok, t.pairs⟩ := by
  simp [eventOf, h]

end Sys2Proof.Machine
end

