-- ==== Sys2Proof/Laws/Geometry.lean ====
section
/-! SUPPORT. Small laws of the rasterizer's helpers: distances, directions, rounding, and operations that owe something. -/

namespace Sys2Proof.Machine

theorem absDiff_eq (a b : Nat) : absDiff a b = max a b - min a b := by
  unfold absDiff; split <;> omega

theorem absDiff_comm (a b : Nat) : absDiff a b = absDiff b a := by
  unfold absDiff; split <;> split <;> omega

/-- Away from a zero distance the direction may be read with a strict comparison (R227). -/
theorem toward_of_ne (a b k : Nat) (h : a ≠ b) : toward a b k = if a < b then a + k else a - k := by
  unfold toward; split <;> split <;> omega

/-- Moving the whole distance arrives (R234). -/
theorem toward_absDiff (a b : Nat) : toward a b (absDiff a b) = b := by
  unfold toward absDiff; split <;> omega

theorem toward_zero (a b : Nat) : toward a b 0 = a := by unfold toward; split <;> rfl

/-- Moving no further than the distance stays between the two ends. -/
theorem toward_between (a b k : Nat) (h : k ≤ absDiff a b) : min a b ≤ toward a b k ∧ toward a b k ≤ max a b := by
  unfold toward; unfold absDiff at h; split <;> split at h <;> omega

theorem rnd_eq (m : LineRounding) (n d : Nat) : rnd m n d = if m = .nearest then (2 * n + d) / (2 * d) else n / d := by
  cases m <;> rfl

theorem rnd_zero (m : LineRounding) (d : Nat) (h : 0 < d) : rnd m 0 d = 0 := by
  cases m with
  | nearest => exact Nat.div_eq_of_lt (by omega)
  | truncate => exact Nat.zero_div d

theorem rnd_self_mul (m : LineRounding) (n d : Nat) (h : 0 < d) : rnd m (n * d) d = n := by
  cases m with
  | nearest =>
    simp only [rnd]
    rw [show 2 * (n * d) + d = d + 2 * d * n by rw [Nat.mul_comm n d, Nat.mul_assoc]; omega,
      Nat.add_mul_div_left _ _ (by omega), Nat.div_eq_of_lt (by omega), Nat.zero_add]
  | truncate => exact Nat.mul_div_cancel n h

theorem plot_ne_nil (c : Config) (a : Operands) (x y : Nat) : plot c a x y ≠ [] := by simp [plot, openRect]

theorem rect_ne_nil (c : Config) (a : Operands) (x0 y0 x1 y1 : Nat) : rect c a x0 y0 x1 y1 ≠ [] := by
  simp [rect, openRect]

/-- Every PLOT has the same number of transactions. -/
@[simp] theorem plot_length (c : Config) (a : Operands) (x y : Nat) : (plot c a x y).length = 5 + (fill c a.color 1).length := by
  simp [plot, openRect, winAt, win]; omega

theorem plotAll_length (c : Config) (a : Operands) (l : List (Nat × Nat)) :
    (plotAll c a l).length = l.length * (5 + (fill c a.color 1).length) := by
  induction l with
  | nil => simp [plotAll]
  | cons p ps ih =>
    simp only [plotAll, List.flatMap_cons, List.length_append, plot_length] at ih ⊢
    rw [ih]; simp [Nat.succ_mul, Nat.add_comm]

theorem plotAll_append (c : Config) (a : Operands) (l m : List (Nat × Nat)) :
    plotAll c a (l ++ m) = plotAll c a l ++ plotAll c a m := by simp [plotAll]

/-! ## The font plays no part but through a glyph's columns -/

@[simp] theorem plot_font (c : Config) (font : List Glyph) (a : Operands) (x y : Nat) :
    plot { c with font := font } a x y = plot c a x y := rfl

@[simp] theorem glyphTxns_font (c : Config) (font : List Glyph) (a : Operands) (cols : List Byte) :
    glyphTxns { c with font := font } a cols = glyphTxns c a cols := rfl

/-! ## Glyph cells (R249) -/

theorem columnAt_glyphColumns (c : Config) (font ch : Byte) (col : Nat) (h : col < 5) :
    columnAt (glyphColumns c font ch) col = fontColumn c font ch col := by
  simp only [columnAt, glyphColumns, List.getElem?_map, List.getElem?_range h, Option.map_some, Option.getD_some]

/-- A cell of a column stands in it. -/
theorem columnCells_fst (cols : List Byte) (col : Nat) (p : Nat × Nat) (h : p ∈ columnCells cols col) : p.1 = col := by
  simp only [columnCells, List.mem_map] at h
  obtain ⟨_, _, rfl⟩ := h; rfl

theorem columnCells_congr (cols cols' : List Byte) (col : Nat) (h : columnAt cols col = columnAt cols' col) :
    columnCells cols col = columnCells cols' col := by simp [columnCells, h]

/-- The cells of the first `j` columns, then those of the later columns. -/
theorem glyphCells_split (cols : List Byte) (j : Nat) (h : j ≤ 5) :
    glyphCells cols = (List.range j).flatMap (columnCells cols) ++ (List.range' j (5 - j)).flatMap (columnCells cols) := by
  have hr : ∀ j ≤ 5, List.range 5 = List.range j ++ List.range' j (5 - j) := by decide
  rw [← List.flatMap_append, ← hr j h, glyphCells]

/-- A cell stands among the cells of the columns up to its own. -/
theorem glyphCells_index (cols : List Byte) (k : Nat) (p : Nat × Nat) (h : (glyphCells cols)[k]? = some p) :
    p.1 < 5 ∧ k < ((List.range (p.1 + 1)).flatMap (columnCells cols)).length := by
  have hm := List.mem_of_getElem? h
  simp only [glyphCells, List.mem_flatMap, List.mem_range] at hm
  obtain ⟨col, hc, hp⟩ := hm
  have h1 := columnCells_fst _ _ _ hp
  have h5 : p.1 < 5 := by omega
  refine ⟨h5, ?_⟩
  rcases Nat.lt_or_ge k ((List.range (p.1 + 1)).flatMap (columnCells cols)).length with hk | hk
  · exact hk
  rw [glyphCells_split cols (p.1 + 1) h5, List.getElem?_append_right hk] at h
  have hm := List.mem_of_getElem? h
  simp only [List.mem_flatMap, List.mem_range'_1] at hm
  obtain ⟨col', hc', hp'⟩ := hm
  have := columnCells_fst _ _ _ hp'
  omega

theorem glyphTxns_length (c : Config) (a : Operands) (cols : List Byte) :
    (glyphTxns c a cols).length = (glyphCells cols).length * (5 + (fill c a.color 1).length) := by
  simp [glyphTxns, plotAll_length, glyphPoints]

@[simp] theorem win_length (c : Config) (xs ys xe ye : Nat) : (win c xs ys xe ye).length = 4 := rfl

end Sys2Proof.Machine
end

