-- ==== Sys2Proof/Laws/Operands.lean ====
section
/-! SUPPORT. What each check of the operands says, as a proposition (R180, R181, R187 to R194, R224, R236, R248). -/

namespace Sys2Proof.Machine

@[simp] theorem rectOk_iff (x0 y0 x1 y1 : Half) :
    rectOk x0 y0 x1 y1 = true ↔ x0.toNat ≤ x1.toNat ∧ y0.toNat ≤ y1.toNat := by simp [rectOk]

@[simp] theorem colOk_iff (a : Operands) (x : Nat) : colOk a x = true ↔ x + a.offx.toNat ≤ 0xFFFF := by simp [colOk, devOk]

@[simp] theorem rowOk_iff (a : Operands) (y : Nat) : rowOk a y = true ↔ y + a.offy.toNat ≤ 0xFFFF := by simp [rowOk, devOk]

theorem cornersOk_iff (a : Operands) : cornersOk a = true ↔
    a.x0.toNat ≤ a.x1.toNat ∧ a.y0.toNat ≤ a.y1.toNat ∧
      a.x1.toNat + a.offx.toNat ≤ 0xFFFF ∧ a.y1.toNat + a.offy.toNat ≤ 0xFFFF := by
  simp [cornersOk, and_assoc]

theorem blitOk_iff (a : Operands) : blitOk a = true ↔
    a.aux.toNat = a.x1.toNat * a.y1.toNat * 2 ∧ 1 ≤ a.x1.toNat ∧ 1 ≤ a.y1.toNat ∧
      a.x0.toNat + a.x1.toNat - 1 + a.offx.toNat ≤ 0xFFFF ∧ a.y0.toNat + a.y1.toNat - 1 + a.offy.toNat ≤ 0xFFFF := by
  simp only [blitOk, Bool.and_eq_true, decide_eq_true_eq, colOk_iff, rowOk_iff, and_assoc]

theorem lineOk_iff (a : Operands) : lineOk a = true ↔
    max a.x0.toNat a.x1.toNat + a.offx.toNat ≤ 0xFFFF ∧ max a.y0.toNat a.y1.toNat + a.offy.toNat ≤ 0xFFFF := by
  simp only [lineOk, Bool.and_eq_true, colOk_iff, rowOk_iff]

theorem circleOk_iff (a : Operands) : circleOk a = true ↔
    a.radius ≤ a.x0.toNat ∧ a.radius ≤ a.y0.toNat ∧
      a.x0.toNat + a.radius + a.offx.toNat ≤ 0xFFFF ∧ a.y0.toNat + a.radius + a.offy.toNat ≤ 0xFFFF := by
  simp only [circleOk, Bool.and_eq_true, decide_eq_true_eq, colOk_iff, rowOk_iff, and_assoc]

theorem glyphOk_iff (a : Operands) : glyphOk a = true ↔
    4 ≤ a.x0.toNat ∧ 6 ≤ a.y0.toNat ∧ a.x0.toNat + a.offx.toNat ≤ 0xFFFF ∧ a.y0.toNat + a.offy.toNat ≤ 0xFFFF := by
  simp only [glyphOk, Bool.and_eq_true, decide_eq_true_eq, colOk_iff, rowOk_iff, and_assoc]

end Sys2Proof.Machine
end

