-- ==== Sys2Proof/Laws/State.lean ====
section
/-! SUPPORT. One lemma per field per named update of the state, so that no proof unfolds a record update. -/

namespace Sys2Proof.Machine.State

@[simp] theorem setCfg_cfg (s : State) (v : Config) : (s.setCfg v).cfg = v := rfl
@[simp] theorem setCfg_arg0 (s : State) (v : Config) : (s.setCfg v).arg0 = s.arg0 := rfl
@[simp] theorem setCfg_arg1 (s : State) (v : Config) : (s.setCfg v).arg1 = s.arg1 := rfl
@[simp] theorem setCfg_arg2 (s : State) (v : Config) : (s.setCfg v).arg2 = s.arg2 := rfl
@[simp] theorem setCfg_color (s : State) (v : Config) : (s.setCfg v).color = s.color := rfl
@[simp] theorem setCfg_offset (s : State) (v : Config) : (s.setCfg v).offset = s.offset := rfl
@[simp] theorem setCfg_session (s : State) (v : Config) : (s.setCfg v).session = s.session := rfl
@[simp] theorem setCfg_orient (s : State) (v : Config) : (s.setCfg v).orient = s.orient := rfl
@[simp] theorem setCfg_err (s : State) (v : Config) : (s.setCfg v).err = s.err := rfl
@[simp] theorem setCfg_ovr (s : State) (v : Config) : (s.setCfg v).ovr = s.ovr := rfl
@[simp] theorem setCfg_seq (s : State) (v : Config) : (s.setCfg v).seq = s.seq := rfl
@[simp] theorem setCfg_history (s : State) (v : Config) : (s.setCfg v).history = s.history := rfl
@[simp] theorem setCfg_abandoned (s : State) (v : Config) : (s.setCfg v).abandoned = s.abandoned := rfl
@[simp] theorem setCfg_reads (s : State) (v : Config) : (s.setCfg v).reads = s.reads := rfl
@[simp] theorem setCfg_inputs (s : State) (v : Config) : (s.setCfg v).inputs = s.inputs := rfl

@[simp] theorem setArg0_cfg (s : State) (v : Word) : (s.setArg0 v).cfg = s.cfg := rfl
@[simp] theorem setArg0_arg0 (s : State) (v : Word) : (s.setArg0 v).arg0 = v := rfl
@[simp] theorem setArg0_arg1 (s : State) (v : Word) : (s.setArg0 v).arg1 = s.arg1 := rfl
@[simp] theorem setArg0_arg2 (s : State) (v : Word) : (s.setArg0 v).arg2 = s.arg2 := rfl
@[simp] theorem setArg0_color (s : State) (v : Word) : (s.setArg0 v).color = s.color := rfl
@[simp] theorem setArg0_offset (s : State) (v : Word) : (s.setArg0 v).offset = s.offset := rfl
@[simp] theorem setArg0_session (s : State) (v : Word) : (s.setArg0 v).session = s.session := rfl
@[simp] theorem setArg0_orient (s : State) (v : Word) : (s.setArg0 v).orient = s.orient := rfl
@[simp] theorem setArg0_err (s : State) (v : Word) : (s.setArg0 v).err = s.err := rfl
@[simp] theorem setArg0_ovr (s : State) (v : Word) : (s.setArg0 v).ovr = s.ovr := rfl
@[simp] theorem setArg0_seq (s : State) (v : Word) : (s.setArg0 v).seq = s.seq := rfl
@[simp] theorem setArg0_history (s : State) (v : Word) : (s.setArg0 v).history = s.history := rfl
@[simp] theorem setArg0_abandoned (s : State) (v : Word) : (s.setArg0 v).abandoned = s.abandoned := rfl
@[simp] theorem setArg0_reads (s : State) (v : Word) : (s.setArg0 v).reads = s.reads := rfl
@[simp] theorem setArg0_inputs (s : State) (v : Word) : (s.setArg0 v).inputs = s.inputs := rfl

@[simp] theorem setArg1_cfg (s : State) (v : Word) : (s.setArg1 v).cfg = s.cfg := rfl
@[simp] theorem setArg1_arg0 (s : State) (v : Word) : (s.setArg1 v).arg0 = s.arg0 := rfl
@[simp] theorem setArg1_arg1 (s : State) (v : Word) : (s.setArg1 v).arg1 = v := rfl
@[simp] theorem setArg1_arg2 (s : State) (v : Word) : (s.setArg1 v).arg2 = s.arg2 := rfl
@[simp] theorem setArg1_color (s : State) (v : Word) : (s.setArg1 v).color = s.color := rfl
@[simp] theorem setArg1_offset (s : State) (v : Word) : (s.setArg1 v).offset = s.offset := rfl
@[simp] theorem setArg1_session (s : State) (v : Word) : (s.setArg1 v).session = s.session := rfl
@[simp] theorem setArg1_orient (s : State) (v : Word) : (s.setArg1 v).orient = s.orient := rfl
@[simp] theorem setArg1_err (s : State) (v : Word) : (s.setArg1 v).err = s.err := rfl
@[simp] theorem setArg1_ovr (s : State) (v : Word) : (s.setArg1 v).ovr = s.ovr := rfl
@[simp] theorem setArg1_seq (s : State) (v : Word) : (s.setArg1 v).seq = s.seq := rfl
@[simp] theorem setArg1_history (s : State) (v : Word) : (s.setArg1 v).history = s.history := rfl
@[simp] theorem setArg1_abandoned (s : State) (v : Word) : (s.setArg1 v).abandoned = s.abandoned := rfl
@[simp] theorem setArg1_reads (s : State) (v : Word) : (s.setArg1 v).reads = s.reads := rfl
@[simp] theorem setArg1_inputs (s : State) (v : Word) : (s.setArg1 v).inputs = s.inputs := rfl

@[simp] theorem setArg2_cfg (s : State) (v : Word) : (s.setArg2 v).cfg = s.cfg := rfl
@[simp] theorem setArg2_arg0 (s : State) (v : Word) : (s.setArg2 v).arg0 = s.arg0 := rfl
@[simp] theorem setArg2_arg1 (s : State) (v : Word) : (s.setArg2 v).arg1 = s.arg1 := rfl
@[simp] theorem setArg2_arg2 (s : State) (v : Word) : (s.setArg2 v).arg2 = v := rfl
@[simp] theorem setArg2_color (s : State) (v : Word) : (s.setArg2 v).color = s.color := rfl
@[simp] theorem setArg2_offset (s : State) (v : Word) : (s.setArg2 v).offset = s.offset := rfl
@[simp] theorem setArg2_session (s : State) (v : Word) : (s.setArg2 v).session = s.session := rfl
@[simp] theorem setArg2_orient (s : State) (v : Word) : (s.setArg2 v).orient = s.orient := rfl
@[simp] theorem setArg2_err (s : State) (v : Word) : (s.setArg2 v).err = s.err := rfl
@[simp] theorem setArg2_ovr (s : State) (v : Word) : (s.setArg2 v).ovr = s.ovr := rfl
@[simp] theorem setArg2_seq (s : State) (v : Word) : (s.setArg2 v).seq = s.seq := rfl
@[simp] theorem setArg2_history (s : State) (v : Word) : (s.setArg2 v).history = s.history := rfl
@[simp] theorem setArg2_abandoned (s : State) (v : Word) : (s.setArg2 v).abandoned = s.abandoned := rfl
@[simp] theorem setArg2_reads (s : State) (v : Word) : (s.setArg2 v).reads = s.reads := rfl
@[simp] theorem setArg2_inputs (s : State) (v : Word) : (s.setArg2 v).inputs = s.inputs := rfl

@[simp] theorem setColor_cfg (s : State) (v : Word) : (s.setColor v).cfg = s.cfg := rfl
@[simp] theorem setColor_arg0 (s : State) (v : Word) : (s.setColor v).arg0 = s.arg0 := rfl
@[simp] theorem setColor_arg1 (s : State) (v : Word) : (s.setColor v).arg1 = s.arg1 := rfl
@[simp] theorem setColor_arg2 (s : State) (v : Word) : (s.setColor v).arg2 = s.arg2 := rfl
@[simp] theorem setColor_color (s : State) (v : Word) : (s.setColor v).color = v := rfl
@[simp] theorem setColor_offset (s : State) (v : Word) : (s.setColor v).offset = s.offset := rfl
@[simp] theorem setColor_session (s : State) (v : Word) : (s.setColor v).session = s.session := rfl
@[simp] theorem setColor_orient (s : State) (v : Word) : (s.setColor v).orient = s.orient := rfl
@[simp] theorem setColor_err (s : State) (v : Word) : (s.setColor v).err = s.err := rfl
@[simp] theorem setColor_ovr (s : State) (v : Word) : (s.setColor v).ovr = s.ovr := rfl
@[simp] theorem setColor_seq (s : State) (v : Word) : (s.setColor v).seq = s.seq := rfl
@[simp] theorem setColor_history (s : State) (v : Word) : (s.setColor v).history = s.history := rfl
@[simp] theorem setColor_abandoned (s : State) (v : Word) : (s.setColor v).abandoned = s.abandoned := rfl
@[simp] theorem setColor_reads (s : State) (v : Word) : (s.setColor v).reads = s.reads := rfl
@[simp] theorem setColor_inputs (s : State) (v : Word) : (s.setColor v).inputs = s.inputs := rfl

@[simp] theorem setOffset_cfg (s : State) (v : Word) : (s.setOffset v).cfg = s.cfg := rfl
@[simp] theorem setOffset_arg0 (s : State) (v : Word) : (s.setOffset v).arg0 = s.arg0 := rfl
@[simp] theorem setOffset_arg1 (s : State) (v : Word) : (s.setOffset v).arg1 = s.arg1 := rfl
@[simp] theorem setOffset_arg2 (s : State) (v : Word) : (s.setOffset v).arg2 = s.arg2 := rfl
@[simp] theorem setOffset_color (s : State) (v : Word) : (s.setOffset v).color = s.color := rfl
@[simp] theorem setOffset_offset (s : State) (v : Word) : (s.setOffset v).offset = v := rfl
@[simp] theorem setOffset_session (s : State) (v : Word) : (s.setOffset v).session = s.session := rfl
@[simp] theorem setOffset_orient (s : State) (v : Word) : (s.setOffset v).orient = s.orient := rfl
@[simp] theorem setOffset_err (s : State) (v : Word) : (s.setOffset v).err = s.err := rfl
@[simp] theorem setOffset_ovr (s : State) (v : Word) : (s.setOffset v).ovr = s.ovr := rfl
@[simp] theorem setOffset_seq (s : State) (v : Word) : (s.setOffset v).seq = s.seq := rfl
@[simp] theorem setOffset_history (s : State) (v : Word) : (s.setOffset v).history = s.history := rfl
@[simp] theorem setOffset_abandoned (s : State) (v : Word) : (s.setOffset v).abandoned = s.abandoned := rfl
@[simp] theorem setOffset_reads (s : State) (v : Word) : (s.setOffset v).reads = s.reads := rfl
@[simp] theorem setOffset_inputs (s : State) (v : Word) : (s.setOffset v).inputs = s.inputs := rfl

@[simp] theorem setSession_cfg (s : State) (v : Session) : (s.setSession v).cfg = s.cfg := rfl
@[simp] theorem setSession_arg0 (s : State) (v : Session) : (s.setSession v).arg0 = s.arg0 := rfl
@[simp] theorem setSession_arg1 (s : State) (v : Session) : (s.setSession v).arg1 = s.arg1 := rfl
@[simp] theorem setSession_arg2 (s : State) (v : Session) : (s.setSession v).arg2 = s.arg2 := rfl
@[simp] theorem setSession_color (s : State) (v : Session) : (s.setSession v).color = s.color := rfl
@[simp] theorem setSession_offset (s : State) (v : Session) : (s.setSession v).offset = s.offset := rfl
@[simp] theorem setSession_session (s : State) (v : Session) : (s.setSession v).session = v := rfl
@[simp] theorem setSession_orient (s : State) (v : Session) : (s.setSession v).orient = s.orient := rfl
@[simp] theorem setSession_err (s : State) (v : Session) : (s.setSession v).err = s.err := rfl
@[simp] theorem setSession_ovr (s : State) (v : Session) : (s.setSession v).ovr = s.ovr := rfl
@[simp] theorem setSession_seq (s : State) (v : Session) : (s.setSession v).seq = s.seq := rfl
@[simp] theorem setSession_history (s : State) (v : Session) : (s.setSession v).history = s.history := rfl
@[simp] theorem setSession_abandoned (s : State) (v : Session) : (s.setSession v).abandoned = s.abandoned := rfl
@[simp] theorem setSession_reads (s : State) (v : Session) : (s.setSession v).reads = s.reads := rfl
@[simp] theorem setSession_inputs (s : State) (v : Session) : (s.setSession v).inputs = s.inputs := rfl

@[simp] theorem setOrient_cfg (s : State) (v : BitVec 2) : (s.setOrient v).cfg = s.cfg := rfl
@[simp] theorem setOrient_arg0 (s : State) (v : BitVec 2) : (s.setOrient v).arg0 = s.arg0 := rfl
@[simp] theorem setOrient_arg1 (s : State) (v : BitVec 2) : (s.setOrient v).arg1 = s.arg1 := rfl
@[simp] theorem setOrient_arg2 (s : State) (v : BitVec 2) : (s.setOrient v).arg2 = s.arg2 := rfl
@[simp] theorem setOrient_color (s : State) (v : BitVec 2) : (s.setOrient v).color = s.color := rfl
@[simp] theorem setOrient_offset (s : State) (v : BitVec 2) : (s.setOrient v).offset = s.offset := rfl
@[simp] theorem setOrient_session (s : State) (v : BitVec 2) : (s.setOrient v).session = s.session := rfl
@[simp] theorem setOrient_orient (s : State) (v : BitVec 2) : (s.setOrient v).orient = v := rfl
@[simp] theorem setOrient_err (s : State) (v : BitVec 2) : (s.setOrient v).err = s.err := rfl
@[simp] theorem setOrient_ovr (s : State) (v : BitVec 2) : (s.setOrient v).ovr = s.ovr := rfl
@[simp] theorem setOrient_seq (s : State) (v : BitVec 2) : (s.setOrient v).seq = s.seq := rfl
@[simp] theorem setOrient_history (s : State) (v : BitVec 2) : (s.setOrient v).history = s.history := rfl
@[simp] theorem setOrient_abandoned (s : State) (v : BitVec 2) : (s.setOrient v).abandoned = s.abandoned := rfl
@[simp] theorem setOrient_reads (s : State) (v : BitVec 2) : (s.setOrient v).reads = s.reads := rfl
@[simp] theorem setOrient_inputs (s : State) (v : BitVec 2) : (s.setOrient v).inputs = s.inputs := rfl

@[simp] theorem setErr_cfg (s : State) (v : ErrCode) : (s.setErr v).cfg = s.cfg := rfl
@[simp] theorem setErr_arg0 (s : State) (v : ErrCode) : (s.setErr v).arg0 = s.arg0 := rfl
@[simp] theorem setErr_arg1 (s : State) (v : ErrCode) : (s.setErr v).arg1 = s.arg1 := rfl
@[simp] theorem setErr_arg2 (s : State) (v : ErrCode) : (s.setErr v).arg2 = s.arg2 := rfl
@[simp] theorem setErr_color (s : State) (v : ErrCode) : (s.setErr v).color = s.color := rfl
@[simp] theorem setErr_offset (s : State) (v : ErrCode) : (s.setErr v).offset = s.offset := rfl
@[simp] theorem setErr_session (s : State) (v : ErrCode) : (s.setErr v).session = s.session := rfl
@[simp] theorem setErr_orient (s : State) (v : ErrCode) : (s.setErr v).orient = s.orient := rfl
@[simp] theorem setErr_err (s : State) (v : ErrCode) : (s.setErr v).err = v := rfl
@[simp] theorem setErr_ovr (s : State) (v : ErrCode) : (s.setErr v).ovr = s.ovr := rfl
@[simp] theorem setErr_seq (s : State) (v : ErrCode) : (s.setErr v).seq = s.seq := rfl
@[simp] theorem setErr_history (s : State) (v : ErrCode) : (s.setErr v).history = s.history := rfl
@[simp] theorem setErr_abandoned (s : State) (v : ErrCode) : (s.setErr v).abandoned = s.abandoned := rfl
@[simp] theorem setErr_reads (s : State) (v : ErrCode) : (s.setErr v).reads = s.reads := rfl
@[simp] theorem setErr_inputs (s : State) (v : ErrCode) : (s.setErr v).inputs = s.inputs := rfl

@[simp] theorem setOvr_cfg (s : State) (v : Bool) : (s.setOvr v).cfg = s.cfg := rfl
@[simp] theorem setOvr_arg0 (s : State) (v : Bool) : (s.setOvr v).arg0 = s.arg0 := rfl
@[simp] theorem setOvr_arg1 (s : State) (v : Bool) : (s.setOvr v).arg1 = s.arg1 := rfl
@[simp] theorem setOvr_arg2 (s : State) (v : Bool) : (s.setOvr v).arg2 = s.arg2 := rfl
@[simp] theorem setOvr_color (s : State) (v : Bool) : (s.setOvr v).color = s.color := rfl
@[simp] theorem setOvr_offset (s : State) (v : Bool) : (s.setOvr v).offset = s.offset := rfl
@[simp] theorem setOvr_session (s : State) (v : Bool) : (s.setOvr v).session = s.session := rfl
@[simp] theorem setOvr_orient (s : State) (v : Bool) : (s.setOvr v).orient = s.orient := rfl
@[simp] theorem setOvr_err (s : State) (v : Bool) : (s.setOvr v).err = s.err := rfl
@[simp] theorem setOvr_ovr (s : State) (v : Bool) : (s.setOvr v).ovr = v := rfl
@[simp] theorem setOvr_seq (s : State) (v : Bool) : (s.setOvr v).seq = s.seq := rfl
@[simp] theorem setOvr_history (s : State) (v : Bool) : (s.setOvr v).history = s.history := rfl
@[simp] theorem setOvr_abandoned (s : State) (v : Bool) : (s.setOvr v).abandoned = s.abandoned := rfl
@[simp] theorem setOvr_reads (s : State) (v : Bool) : (s.setOvr v).reads = s.reads := rfl
@[simp] theorem setOvr_inputs (s : State) (v : Bool) : (s.setOvr v).inputs = s.inputs := rfl

@[simp] theorem setSeq_cfg (s : State) (v : Seq) : (s.setSeq v).cfg = s.cfg := rfl
@[simp] theorem setSeq_arg0 (s : State) (v : Seq) : (s.setSeq v).arg0 = s.arg0 := rfl
@[simp] theorem setSeq_arg1 (s : State) (v : Seq) : (s.setSeq v).arg1 = s.arg1 := rfl
@[simp] theorem setSeq_arg2 (s : State) (v : Seq) : (s.setSeq v).arg2 = s.arg2 := rfl
@[simp] theorem setSeq_color (s : State) (v : Seq) : (s.setSeq v).color = s.color := rfl
@[simp] theorem setSeq_offset (s : State) (v : Seq) : (s.setSeq v).offset = s.offset := rfl
@[simp] theorem setSeq_session (s : State) (v : Seq) : (s.setSeq v).session = s.session := rfl
@[simp] theorem setSeq_orient (s : State) (v : Seq) : (s.setSeq v).orient = s.orient := rfl
@[simp] theorem setSeq_err (s : State) (v : Seq) : (s.setSeq v).err = s.err := rfl
@[simp] theorem setSeq_ovr (s : State) (v : Seq) : (s.setSeq v).ovr = s.ovr := rfl
@[simp] theorem setSeq_seq (s : State) (v : Seq) : (s.setSeq v).seq = v := rfl
@[simp] theorem setSeq_history (s : State) (v : Seq) : (s.setSeq v).history = s.history := rfl
@[simp] theorem setSeq_abandoned (s : State) (v : Seq) : (s.setSeq v).abandoned = s.abandoned := rfl
@[simp] theorem setSeq_reads (s : State) (v : Seq) : (s.setSeq v).reads = s.reads := rfl
@[simp] theorem setSeq_inputs (s : State) (v : Seq) : (s.setSeq v).inputs = s.inputs := rfl

@[simp] theorem setHistory_cfg (s : State) (v : List Event) : (s.setHistory v).cfg = s.cfg := rfl
@[simp] theorem setHistory_arg0 (s : State) (v : List Event) : (s.setHistory v).arg0 = s.arg0 := rfl
@[simp] theorem setHistory_arg1 (s : State) (v : List Event) : (s.setHistory v).arg1 = s.arg1 := rfl
@[simp] theorem setHistory_arg2 (s : State) (v : List Event) : (s.setHistory v).arg2 = s.arg2 := rfl
@[simp] theorem setHistory_color (s : State) (v : List Event) : (s.setHistory v).color = s.color := rfl
@[simp] theorem setHistory_offset (s : State) (v : List Event) : (s.setHistory v).offset = s.offset := rfl
@[simp] theorem setHistory_session (s : State) (v : List Event) : (s.setHistory v).session = s.session := rfl
@[simp] theorem setHistory_orient (s : State) (v : List Event) : (s.setHistory v).orient = s.orient := rfl
@[simp] theorem setHistory_err (s : State) (v : List Event) : (s.setHistory v).err = s.err := rfl
@[simp] theorem setHistory_ovr (s : State) (v : List Event) : (s.setHistory v).ovr = s.ovr := rfl
@[simp] theorem setHistory_seq (s : State) (v : List Event) : (s.setHistory v).seq = s.seq := rfl
@[simp] theorem setHistory_history (s : State) (v : List Event) : (s.setHistory v).history = v := rfl
@[simp] theorem setHistory_abandoned (s : State) (v : List Event) : (s.setHistory v).abandoned = s.abandoned := rfl
@[simp] theorem setHistory_reads (s : State) (v : List Event) : (s.setHistory v).reads = s.reads := rfl
@[simp] theorem setHistory_inputs (s : State) (v : List Event) : (s.setHistory v).inputs = s.inputs := rfl

@[simp] theorem setAbandoned_cfg (s : State) (v : List Abandoned) : (s.setAbandoned v).cfg = s.cfg := rfl
@[simp] theorem setAbandoned_arg0 (s : State) (v : List Abandoned) : (s.setAbandoned v).arg0 = s.arg0 := rfl
@[simp] theorem setAbandoned_arg1 (s : State) (v : List Abandoned) : (s.setAbandoned v).arg1 = s.arg1 := rfl
@[simp] theorem setAbandoned_arg2 (s : State) (v : List Abandoned) : (s.setAbandoned v).arg2 = s.arg2 := rfl
@[simp] theorem setAbandoned_color (s : State) (v : List Abandoned) : (s.setAbandoned v).color = s.color := rfl
@[simp] theorem setAbandoned_offset (s : State) (v : List Abandoned) : (s.setAbandoned v).offset = s.offset := rfl
@[simp] theorem setAbandoned_session (s : State) (v : List Abandoned) : (s.setAbandoned v).session = s.session := rfl
@[simp] theorem setAbandoned_orient (s : State) (v : List Abandoned) : (s.setAbandoned v).orient = s.orient := rfl
@[simp] theorem setAbandoned_err (s : State) (v : List Abandoned) : (s.setAbandoned v).err = s.err := rfl
@[simp] theorem setAbandoned_ovr (s : State) (v : List Abandoned) : (s.setAbandoned v).ovr = s.ovr := rfl
@[simp] theorem setAbandoned_seq (s : State) (v : List Abandoned) : (s.setAbandoned v).seq = s.seq := rfl
@[simp] theorem setAbandoned_history (s : State) (v : List Abandoned) : (s.setAbandoned v).history = s.history := rfl
@[simp] theorem setAbandoned_abandoned (s : State) (v : List Abandoned) : (s.setAbandoned v).abandoned = v := rfl
@[simp] theorem setAbandoned_reads (s : State) (v : List Abandoned) : (s.setAbandoned v).reads = s.reads := rfl
@[simp] theorem setAbandoned_inputs (s : State) (v : List Abandoned) : (s.setAbandoned v).inputs = s.inputs := rfl

@[simp] theorem setReads_cfg (s : State) (v : List (Nat × Word)) : (s.setReads v).cfg = s.cfg := rfl
@[simp] theorem setReads_arg0 (s : State) (v : List (Nat × Word)) : (s.setReads v).arg0 = s.arg0 := rfl
@[simp] theorem setReads_arg1 (s : State) (v : List (Nat × Word)) : (s.setReads v).arg1 = s.arg1 := rfl
@[simp] theorem setReads_arg2 (s : State) (v : List (Nat × Word)) : (s.setReads v).arg2 = s.arg2 := rfl
@[simp] theorem setReads_color (s : State) (v : List (Nat × Word)) : (s.setReads v).color = s.color := rfl
@[simp] theorem setReads_offset (s : State) (v : List (Nat × Word)) : (s.setReads v).offset = s.offset := rfl
@[simp] theorem setReads_session (s : State) (v : List (Nat × Word)) : (s.setReads v).session = s.session := rfl
@[simp] theorem setReads_orient (s : State) (v : List (Nat × Word)) : (s.setReads v).orient = s.orient := rfl
@[simp] theorem setReads_err (s : State) (v : List (Nat × Word)) : (s.setReads v).err = s.err := rfl
@[simp] theorem setReads_ovr (s : State) (v : List (Nat × Word)) : (s.setReads v).ovr = s.ovr := rfl
@[simp] theorem setReads_seq (s : State) (v : List (Nat × Word)) : (s.setReads v).seq = s.seq := rfl
@[simp] theorem setReads_history (s : State) (v : List (Nat × Word)) : (s.setReads v).history = s.history := rfl
@[simp] theorem setReads_abandoned (s : State) (v : List (Nat × Word)) : (s.setReads v).abandoned = s.abandoned := rfl
@[simp] theorem setReads_reads (s : State) (v : List (Nat × Word)) : (s.setReads v).reads = v := rfl
@[simp] theorem setReads_inputs (s : State) (v : List (Nat × Word)) : (s.setReads v).inputs = s.inputs := rfl

@[simp] theorem setInputs_cfg (s : State) (v : List Input) : (s.setInputs v).cfg = s.cfg := rfl
@[simp] theorem setInputs_arg0 (s : State) (v : List Input) : (s.setInputs v).arg0 = s.arg0 := rfl
@[simp] theorem setInputs_arg1 (s : State) (v : List Input) : (s.setInputs v).arg1 = s.arg1 := rfl
@[simp] theorem setInputs_arg2 (s : State) (v : List Input) : (s.setInputs v).arg2 = s.arg2 := rfl
@[simp] theorem setInputs_color (s : State) (v : List Input) : (s.setInputs v).color = s.color := rfl
@[simp] theorem setInputs_offset (s : State) (v : List Input) : (s.setInputs v).offset = s.offset := rfl
@[simp] theorem setInputs_session (s : State) (v : List Input) : (s.setInputs v).session = s.session := rfl
@[simp] theorem setInputs_orient (s : State) (v : List Input) : (s.setInputs v).orient = s.orient := rfl
@[simp] theorem setInputs_err (s : State) (v : List Input) : (s.setInputs v).err = s.err := rfl
@[simp] theorem setInputs_ovr (s : State) (v : List Input) : (s.setInputs v).ovr = s.ovr := rfl
@[simp] theorem setInputs_seq (s : State) (v : List Input) : (s.setInputs v).seq = s.seq := rfl
@[simp] theorem setInputs_history (s : State) (v : List Input) : (s.setInputs v).history = s.history := rfl
@[simp] theorem setInputs_abandoned (s : State) (v : List Input) : (s.setInputs v).abandoned = s.abandoned := rfl
@[simp] theorem setInputs_reads (s : State) (v : List Input) : (s.setInputs v).reads = s.reads := rfl
@[simp] theorem setInputs_inputs (s : State) (v : List Input) : (s.setInputs v).inputs = v := rfl

end Sys2Proof.Machine.State
end

