-- ==== Sys2Proof/Laws/Ops.lean ====
section
/-! SUPPORT. What each shared operation can do, said once, for the provers to cite. -/

namespace Sys2Proof.Machine

/-! ## The evaluation of a starting word (R272): each of its outcomes -/

theorem start_busy (o : Operation) (s : State) (h : s.seq.phase = .run) : start o s = drop s := by simp [start, h]

theorem start_streaming (o : Operation) (s : State) (h : s.seq.stream ≠ .none) : start o s = drop s := by
  simp [start, h]

theorem start_illegal (o : Operation) (s : State) (h1 : s.seq.phase ≠ .run) (h2 : s.seq.stream = .none)
    (h3 : o.legal = false) : start o s = reject .illegalOp s := by simp [start, h1, h2, h3]

theorem start_notReady (o : Operation) (s : State) (h1 : s.seq.phase ≠ .run) (h2 : s.seq.stream = .none)
    (h3 : o.legal = true) (h4 : s.session = .uninit) (h5 : o.inUninit = false) :
    start o s = reject .notReady s := by simp [start, h1, h2, h3, h4, h5]

theorem start_invalid (o : Operation) (s : State) (h1 : s.seq.phase ≠ .run) (h2 : s.seq.stream = .none)
    (h3 : o.legal = true) (h4 : s.session = .ready ∨ o.inUninit = true) (h5 : o.checks = false) :
    start o s = reject .invalidInput s := by
  rcases h4 with h4 | h4 <;> simp [start, h1, h2, h3, h4, h5]

theorem start_accepts (o : Operation) (s : State) (h1 : s.seq.phase ≠ .run) (h2 : s.seq.stream = .none)
    (h3 : o.legal = true) (h4 : s.session = .ready ∨ o.inUninit = true) (h5 : o.checks = true) (h6 : o.todo ≠ []) :
    start o s = accept o s := by
  rcases h4 with h4 | h4 <;> simp [start, h1, h2, h3, h4, h5, h6]

theorem start_endsAtOnce (o : Operation) (s : State) (h1 : s.seq.phase ≠ .run) (h2 : s.seq.stream = .none)
    (h3 : o.legal = true) (h4 : s.session = .ready ∨ o.inUninit = true) (h5 : o.checks = true) (h6 : o.todo = []) :
    start o s = endOperation (accept o s) := by
  rcases h4 with h4 | h4 <;> simp [start, h1, h2, h3, h4, h5, h6]

/-- A word accepted in READY with transactions owed: the next state whole. -/
theorem start_startedWith (o : Operation) (s : State) (h : s.accepting) (h3 : o.legal = true)
    (h4 : s.session = .ready ∨ o.inUninit = true) (h5 : o.checks = true) (h6 : o.todo ≠ []) :
    start o s = State.startedWith { s with session := if o.unready then .uninit else s.session } o.op o.sub o.todo o.next o.columns := by
  obtain ⟨h1, h2⟩ := h
  rw [start_accepts o s h1 h2 h3 h4 h5 h6]
  simp [accept, acceptSeq, State.setSession, State.setErr, State.setSeq, State.startedWith, State.operands, h2]

/-- Everything a starting word can do. -/
theorem start_cases (o : Operation) (s : State) :
    ((s.seq.phase = .run ∨ s.seq.stream ≠ .none) ∧ start o s = drop s) ∨
    (s.seq.phase ≠ .run ∧ s.seq.stream = .none ∧
      ((∃ e, (e = .illegalOp ∨ e = .notReady ∨ e = .invalidInput) ∧ start o s = reject e s) ∨
       (o.legal = true ∧ (s.session = .ready ∨ o.inUninit = true) ∧ o.checks = true ∧
         ((o.todo = [] ∧ start o s = endOperation (accept o s)) ∨ (o.todo ≠ [] ∧ start o s = accept o s))))) := by
  by_cases h1 : s.seq.phase = .run
  · exact .inl ⟨.inl h1, start_busy o s h1⟩
  by_cases h2 : s.seq.stream = .none
  swap
  · exact .inl ⟨.inr h2, start_streaming o s h2⟩
  refine .inr ⟨h1, h2, ?_⟩
  by_cases h3 : o.legal = true
  swap
  · exact .inl ⟨_, .inl rfl, start_illegal o s h1 h2 (by simpa using h3)⟩
  by_cases h4 : s.session = .ready ∨ o.inUninit = true
  swap
  · simp only [not_or, Bool.not_eq_true] at h4
    refine .inl ⟨_, .inr (.inl rfl), start_notReady o s h1 h2 h3 ?_ h4.2⟩
    cases h : s.session with
    | uninit => rfl
    | ready => exact absurd h h4.1
  by_cases h5 : o.checks = true
  swap
  · exact .inl ⟨_, .inr (.inr rfl), start_invalid o s h1 h2 h3 h4 (by simpa using h5)⟩
  refine .inr ⟨h3, h4, h5, ?_⟩
  by_cases h6 : o.todo = []
  · exact .inl ⟨h6, start_endsAtOnce o s h1 h2 h3 h4 h5 h6⟩
  · exact .inr ⟨h6, start_accepts o s h1 h2 h3 h4 h5 h6⟩

/-- Each meaning but END_STREAM's is the evaluation of one operation, whose OP field is the instruction's. -/
theorem exec_is_start (i : Instr) (s : State) (h : i ≠ .endStream) :
    ∃ o : Operation, exec i s = .next (start o s) ∧ o.op = instrOp i ∧ o.sub = instrSub i ∧ o.legal = i.wf := by
  cases i <;> first | exact absurd rfl h | exact ⟨_, rfl, rfl, rfl, rfl⟩

/-- Every meaning answers a next state. -/
theorem exec_next (i : Instr) (s : State) : ∃ t, exec i s = .next t := by
  cases i <;> exact ⟨_, rfl⟩

/-! ## Frames: the fields an operation cannot change -/

@[simp] theorem completion_cfg (s : State) : (completion s).cfg = s.cfg := by unfold completion; split <;> (try split) <;> rfl
@[simp] theorem completion_seq (s : State) : (completion s).seq = s.seq := by unfold completion; split <;> (try split) <;> rfl
@[simp] theorem completion_history (s : State) : (completion s).history = s.history := by
  unfold completion; split <;> (try split) <;> rfl
@[simp] theorem completion_inputs (s : State) : (completion s).inputs = s.inputs := by
  unfold completion; split <;> (try split) <;> rfl
@[simp] theorem completion_err (s : State) : (completion s).err = s.err := by unfold completion; split <;> (try split) <;> rfl

/-- Only INIT's completion changes the session (R57). -/
theorem completion_session (s : State) :
    (completion s).session = if s.seq.op = 0x02 then .ready else s.session := by
  unfold completion opcInit opcSetOrientation
  split
  · simp
  · split <;> simp

/-- Only INIT's and SET_ORIENTATION's completions change the orientation code (R59). -/
theorem completion_orient (s : State) :
    (completion s).orient = if s.seq.op = 0x02 ∨ s.seq.op = 0x03 then s.seq.sub.extractLsb' 0 2 else s.orient := by
  unfold completion opcInit opcSetOrientation
  split
  · rename_i h; simp [h]
  · rename_i h
    split
    · rename_i h2; simp [h2]
    · rename_i h2; simp at h h2; simp [h, h2]

/-- The end of an operation whole (R275 case (d)). -/
theorem endOperation_eq (s : State) : endOperation s = { s with
    err := if s.seq.remaining = 0 then .none else .streamShort
    session := if s.seq.op = 0x02 then .ready else s.session
    orient := if s.seq.op = 0x02 ∨ s.seq.op = 0x03 then s.seq.sub.extractLsb' 0 2 else s.orient
    seq := { s.seq with buf := [], phase := .idle } } := by
  have h1 := completion_session s
  have h2 := completion_orient s
  unfold endOperation
  rw [← h1, ← h2]
  unfold completion
  split <;> (try split) <;> rfl

@[simp] theorem endOperation_cfg (s : State) : (endOperation s).cfg = s.cfg := by simp [endOperation_eq]
@[simp] theorem endOperation_history (s : State) : (endOperation s).history = s.history := by simp [endOperation_eq]
@[simp] theorem endOperation_inputs (s : State) : (endOperation s).inputs = s.inputs := by simp [endOperation_eq]

@[simp] theorem endIfDrained_cfg (s : State) : (endIfDrained s).cfg = s.cfg := by unfold endIfDrained; split <;> simp
@[simp] theorem endIfDrained_history (s : State) : (endIfDrained s).history = s.history := by
  unfold endIfDrained; split <;> simp
@[simp] theorem endIfDrained_inputs (s : State) : (endIfDrained s).inputs = s.inputs := by
  unfold endIfDrained; split <;> simp

theorem start_cfg (o : Operation) (s : State) : (start o s).cfg = s.cfg := by
  rcases start_cases o s with ⟨-, h⟩ | ⟨-, -, ⟨e, -, h⟩ | ⟨-, -, -, ⟨-, h⟩ | ⟨-, h⟩⟩⟩ <;> rw [h] <;> simp [drop, reject, accept]

theorem start_history (o : Operation) (s : State) : (start o s).history = s.history := by
  rcases start_cases o s with ⟨-, h⟩ | ⟨-, -, ⟨e, -, h⟩ | ⟨-, -, -, ⟨-, h⟩ | ⟨-, h⟩⟩⟩ <;> rw [h] <;> simp [drop, reject, accept]

theorem start_inputs (o : Operation) (s : State) : (start o s).inputs = s.inputs := by
  rcases start_cases o s with ⟨-, h⟩ | ⟨-, -, ⟨e, -, h⟩ | ⟨-, -, -, ⟨-, h⟩ | ⟨-, h⟩⟩⟩ <;> rw [h] <;> simp [drop, reject, accept]

/-- Everything END_STREAM can do (R195). -/
theorem takeEndStream_cases (s : State) :
    ((s.seq.phase = .run ∨ s.seq.stream = .none) ∧ takeEndStream s = drop s) ∨
    (s.seq.phase ≠ .run ∧ s.seq.stream ≠ .none ∧ takeEndStream s = endIfDrained (s.setSeq (closeStream s.seq))) := by
  unfold takeEndStream
  by_cases h1 : s.seq.phase = .run
  · simp [h1]
  by_cases h2 : s.seq.stream = .none <;> simp [h1, h2]

/-- Everything a DATA write can do (R186). -/
theorem takeDatum_cases (w : Word) (s : State) :
    ((s.seq.phase = .run ∨ s.seq.stream = .none) ∧ takeDatum w s = drop s) ∨
    (s.seq.phase ≠ .run ∧ s.seq.stream ≠ .none ∧
      ((s.seq.stream = .bytes ∧ s.seq.remaining - 1 = 0 ∧
          takeDatum w s = endIfDrained (s.setSeq (closeStream (bufferDatum s.cfg s.seq w)))) ∨
       ((s.seq.stream = .bytes → s.seq.remaining - 1 ≠ 0) ∧
         (((bufferDatum s.cfg s.seq w).todo = [] ∧ takeDatum w s = s.setSeq (bufferDatum s.cfg s.seq w)) ∨
          ((bufferDatum s.cfg s.seq w).todo ≠ [] ∧
            takeDatum w s = s.setSeq { bufferDatum s.cfg s.seq w with phase := .run }))))) := by
  unfold takeDatum
  by_cases h1 : s.seq.phase = .run ∨ s.seq.stream = .none
  · simp [h1]
  rw [if_neg h1]
  simp only [not_or] at h1
  refine .inr ⟨h1.1, h1.2, ?_⟩
  by_cases h3 : s.seq.stream = .bytes ∧ s.seq.remaining - 1 = 0
  · exact .inl ⟨h3.1, h3.2, by rw [if_pos h3]⟩
  · refine .inr ⟨fun hb hr => h3 ⟨hb, hr⟩, ?_⟩
    rw [if_neg h3]
    by_cases h4 : (bufferDatum s.cfg s.seq w).todo = []
    · exact .inl ⟨h4, by simp [h4]⟩
    · exact .inr ⟨h4, by simp [h4]⟩

/-- A datum's bytes follow what the sequencer already owed (R96). -/
theorem bufferDatum_owed (c : Config) (q : Seq) (w : Word) :
    (bufferDatum c q w).todo.flatMap Txn.pairs ++ (bufferDatum c q w).buf.map (fun b => (⟨.data, b⟩ : WirePair)) =
      q.todo.flatMap Txn.pairs ++ q.buf.map (fun b => ⟨.data, b⟩) ++ (datumBytes c q.stream w).map (fun b => ⟨.data, b⟩) := by
  simp only [bufferDatum, List.flatMap_append, List.append_assoc]
  congr 1
  rw [pairs_of_data _ (fullChunks_data c _), ← List.map_append, fullChunks_payload, List.map_append]

/-- Closing a stream changes nothing of what is owed (R195). -/
theorem closeStream_owed (q : Seq) :
    (closeStream q).todo.flatMap Txn.pairs ++ (closeStream q).buf.map (fun b => (⟨.data, b⟩ : WirePair)) =
      q.todo.flatMap Txn.pairs ++ q.buf.map (fun b => ⟨.data, b⟩) := by
  simp only [closeStream, List.flatMap_append, List.map_nil, List.append_nil]
  rw [pairs_of_data _ (lastChunk_data _), lastChunk_payload]

/-- What the sequencer does when it owes nothing (R275 cases (b), (c), (d)). -/
theorem drained_cases (s : State) :
    (s.seq.stream ≠ .none ∧ drained s = s.setSeq { s.seq with phase := .wait }) ∨
    (s.seq.stream = .none ∧ s.seq.next = .openStream ∧ drained s = s.setSeq (openStream s.seq)) ∨
    (s.seq.stream = .none ∧ s.seq.next = .finish ∧ drained s = endOperation s) := by
  unfold drained
  by_cases h1 : s.seq.stream = .none
  · cases h2 : s.seq.next <;> simp [h1]
  · simp [h1]

@[simp] theorem drained_cfg (s : State) : (drained s).cfg = s.cfg := by
  rcases drained_cases s with ⟨-, h⟩ | ⟨-, -, h⟩ | ⟨-, -, h⟩ <;> rw [h] <;> simp
@[simp] theorem drained_history (s : State) : (drained s).history = s.history := by
  rcases drained_cases s with ⟨-, h⟩ | ⟨-, -, h⟩ | ⟨-, -, h⟩ <;> rw [h] <;> simp
@[simp] theorem drained_inputs (s : State) : (drained s).inputs = s.inputs := by
  rcases drained_cases s with ⟨-, h⟩ | ⟨-, -, h⟩ | ⟨-, -, h⟩ <;> rw [h] <;> simp

/-- An OK answer (R275 case (a)). -/
theorem answered_ok (t : Txn) (rest : List Txn) (a : Answer) (s : State) (h : a.response = .ok) :
    answered t rest a s =
      if rest = [] then drained ((s.setHistory (s.history ++ [⟨t, .ok, t.pairs⟩])).setSeq { s.seq with todo := rest })
      else (s.setHistory (s.history ++ [⟨t, .ok, t.pairs⟩])).setSeq { s.seq with todo := rest } := by
  simp [answered, h, eventOf_ok]

/-- A failure answer (R276). -/
theorem answered_fail (t : Txn) (rest : List Txn) (a : Answer) (s : State) (h : a.response ≠ .ok) :
    answered t rest a s = failOperation a.response.errCode (s.setHistory (s.history ++ [eventOf t a])) := by
  simp [answered, h]

/-! ## A change of the font table (R312) -/

theorem columnAt_mix (read : Nat) (takeNew : List Bool) (old new : List Byte) (i : Nat) (h : i < 5) :
    columnAt (mixColumns read takeNew old new) i = if read ≤ i ∧ takeNew[i]? = some true then columnAt new i else columnAt old i := by
  simp only [columnAt, mixColumns, List.getElem?_map, List.getElem?_range h, Option.map_some, Option.getD_some]

/-- A mix keeps the cells of the columns read. -/
theorem mix_cells (read : Nat) (takeNew : List Bool) (old new : List Byte) (h : read ≤ 5) :
    (List.range read).flatMap (columnCells (mixColumns read takeNew old new)) = (List.range read).flatMap (columnCells old) := by
  simp only [List.flatMap_def]
  congr 1
  apply List.map_congr_left
  intro i hi
  rw [List.mem_range] at hi
  apply columnCells_congr
  rw [columnAt_mix _ _ _ _ _ (by omega), if_neg (by omega)]

/-- What the columns read owe begins what the mix owes. -/
theorem mix_prefix (c : Config) (a : Operands) (read : Nat) (takeNew : List Bool) (old new : List Byte) (h : read ≤ 5) :
    plotAll c a (((List.range read).flatMap (columnCells old)).map fun p => (a.x0.toNat - p.1, a.y0.toNat - p.2)) <+:
      glyphTxns c a (mixColumns read takeNew old new) := by
  rw [glyphTxns, glyphPoints, glyphCells_split _ read h, mix_cells _ _ _ _ h, List.map_append, plotAll_append]
  exact List.prefix_append _ _

theorem columnsRead_le (c : Config) (q : Seq) : columnsRead c q ≤ 5 := by
  unfold columnsRead
  split
  · omega
  · split
    · rename_i cell h
      exact (glyphCells_index _ _ _ h).1
    · omega

/-- What is sent of a glyph belongs to the columns read. -/
theorem glyphSent_le (c : Config) (q : Seq) :
    glyphSent c q ≤ ((List.range (columnsRead c q)).flatMap (columnCells q.columns)).length * (5 + (fill c q.args.color 1).length) := by
  have hs : glyphSent c q ≤ (glyphCells q.columns).length * (5 + (fill c q.args.color 1).length) := by
    rw [← glyphTxns_length]; exact Nat.sub_le _ _
  unfold columnsRead
  split
  · omega
  · split
    · rename_i h0 cell h
      have hk := (glyphCells_index _ _ _ h).2
      rw [plot_length, Nat.div_lt_iff_lt_mul (by omega)] at hk
      omega
    · exact hs

@[simp] theorem glyphSent_font (c : Config) (font : List Glyph) (q : Seq) : glyphSent { c with font := font } q = glyphSent c q := rfl

@[simp] theorem columnsRead_font (c : Config) (font : List Glyph) (q : Seq) : columnsRead { c with font := font } q = columnsRead c q := rfl

/-- Everything a change of the font table can do: change the table alone, or redraw the running DRAW_GLYPH, which may end. -/
theorem changeFont_cases (table : List Glyph) (takeNew : List Bool) (s : State) :
    (¬ (s.seq.phase = .run ∧ s.seq.op = 0x26) ∧ changeFont table takeNew s = s.setCfg { s.cfg with font := table }) ∨
    (s.seq.phase = .run ∧ s.seq.op = 0x26 ∧ changeFont table takeNew s =
      endIfDrained ((s.setCfg { s.cfg with font := table }).setSeq
        (redrawGlyph s.cfg (redrawnColumns { s.cfg with font := table } takeNew s.seq) s.seq))) := by
  by_cases h : s.seq.phase = .run ∧ s.seq.op = 0x26
  · exact .inr ⟨h.1, h.2, if_pos h⟩
  · exact .inl ⟨h, if_neg h⟩

/-! ## Block reset (R300) -/

/-- What an abandoned transaction had delivered is a part of it, with its own modes where no FAIL_DC is possible. -/
theorem abandonedDelivery_prefix (c : Config) (t : Txn) (n : Nat) (modes : List WireMode) :
    (abandonedDelivery c t n modes).map WirePair.byte <+: t.pairs.map WirePair.byte ∧
    (c.transport = .generic → abandonedDelivery c t n modes <+: t.pairs) := by
  unfold abandonedDelivery
  cases c.transport with
  | generic => exact ⟨(List.take_prefix n t.pairs).map _, fun _ => List.take_prefix n t.pairs⟩
  | spiDcPin => exact ⟨by simpa using (List.take_prefix n t.pairs).map WirePair.byte, nofun⟩

/-! ## The reference controller (R101 to R103) -/

theorem Panel.feedAll_append (c : Config) (p : Panel) (l m : List WirePair) :
    Panel.feedAll c p (l ++ m) = Panel.feedAll c (Panel.feedAll c p l) m := by simp [Panel.feedAll]

/-- A controller that has followed the whole wire is admitted. -/
theorem Panel.admitted_feedAll (c : Config) (h : List Event) (p : Panel) : Panel.Admitted c h (Panel.feedAll c p (wireOf h)) := by
  rintro before after rfl - -
  exact ⟨Panel.feedAll c p (wireOf before), by rw [wireOf_append, Panel.feedAll_append]⟩

/-! ## The step, by the move it consumes -/

theorem step_nil (s : State) (h : s.inputs = []) : step s = quietStep s := by simp [step, nextMove, h]

theorem step_cons (s : State) (i : Input) (rest : List Input) (h : s.inputs = i :: rest) :
    step s = takeInput i (s.setInputs rest) := by simp [step, nextMove, h]

/-- A host write to CMD presents its word. -/
theorem step_command (s : State) (w : Word) (rest : List Input) (h : s.inputs = .hostWrite 4 0x00 w :: rest) :
    step s = presentCommand w (s.setInputs rest) := by
  rw [step_cons s _ _ h]; rfl

/-- A host write to DATA presents its datum. -/
theorem step_datum (s : State) (w : Word) (rest : List Input) (h : s.inputs = .hostWrite 4 0x24 w :: rest) :
    step s = .next (takeDatum w (s.setInputs rest)) := by
  rw [step_cons s _ _ h]; rfl

/-- An answer to the outstanding transaction, in its response set. -/
theorem step_answer (s : State) (t : Txn) (more : List Txn) (a : Answer) (rest : List Input)
    (hp : s.seq.phase = .run) (ht : s.seq.todo = t :: more) (h : s.inputs = .answer a :: rest)
    (ha : responseAllowed s.cfg t a.response = true) :
    step s = .next (answered t more a (s.setInputs rest)) := by
  rw [step_cons s _ _ h]; simp [takeInput, sequencerStep, hp, ht, ha]

/-- The font port's table changes. -/
theorem step_fontChange (s : State) (table : List Glyph) (takeNew : List Bool) (rest : List Input)
    (h : s.inputs = .fontChange table takeNew :: rest) : step s = .next (changeFont table takeNew (s.setInputs rest)) := by
  rw [step_cons s _ _ h]; rfl

/-- Block reset. -/
theorem step_blockReset (s : State) (n : Nat) (modes : List WireMode) (rest : List Input) (h : s.inputs = .blockReset n modes :: rest) :
    step s = .next { State.resetWith s.cfg with abandoned := s.abandoned ++ abandon n modes s, reads := s.reads, inputs := rest } := by
  rw [step_cons s _ _ h]; rfl

/-! ## Runs -/

@[simp] theorem runSteps_zero (s : State) : runSteps 0 s = .next s := rfl

/-- A run whose first step answers a next state goes on from it. -/
theorem runSteps_next (n : Nat) (s t : State) (h : step s = .next t) : runSteps (n + 1) s = runSteps n t := by
  have hc : Sys2Proof.core.step s = .next t := h
  simp only [runSteps, Host.Core.run]
  rw [hc]

end Sys2Proof.Machine
end

