-- ==== Sys2Proof/Laws/PerInstr.lean ====
section
/-! SUPPORT. Statements about each instruction as syntax, one lemma per constructor. -/

namespace Sys2Proof.Laws.EncodedWord

/-- The word of a well-formed instruction is a row of the opcode table (R124), and its OP and SUB fields name the instruction again (R121, R123). -/
def Statement (i : Instr) : Prop :=
  i.wf = true → (∃ row ∈ opcodeTable, encode i &&& row.mask = row.pattern) ∧ instrOf (instrOp i) (instrSub i) = some i

/-- For the instructions whose SUB carries nothing the word is one number. -/
theorem plain (i : Instr) (row : OpcodeRow) (h : row ∈ opcodeTable) (hw : encode i &&& row.mask = row.pattern)
    (hi : instrOf (instrOp i) (instrSub i) = some i) : Statement i := fun _ => ⟨⟨row, h, hw⟩, hi⟩

theorem hardReset : Statement .hardReset := plain _ ⟨0x00000001, 0xFFFFFFFF⟩ (by decide) (by decide) (by decide)

theorem init (sub : Byte) : Statement (.init sub) := by
  revert sub; unfold Statement; decide

theorem setOrientation (sub : Byte) : Statement (.setOrientation sub) := by
  revert sub; unfold Statement; decide

theorem sendCmd (op : Byte) : Statement (.sendCmd op) := by
  revert op; unfold Statement; decide

theorem delay : Statement .delay := plain _ ⟨0x00000005, 0xFFFFFFFF⟩ (by decide) (by decide) (by decide)

theorem setWindow : Statement .setWindow := plain _ ⟨0x00000010, 0xFFFFFFFF⟩ (by decide) (by decide) (by decide)

theorem setPixel : Statement .setPixel := plain _ ⟨0x00000011, 0xFFFFFFFF⟩ (by decide) (by decide) (by decide)

theorem setPixels : Statement .setPixels := plain _ ⟨0x00000012, 0xFFFFFFFF⟩ (by decide) (by decide) (by decide)

theorem blit : Statement .blit := plain _ ⟨0x00000013, 0xFFFFFFFF⟩ (by decide) (by decide) (by decide)

theorem endStream : Statement .endStream := plain _ ⟨0x0000001F, 0xFFFFFFFF⟩ (by decide) (by decide) (by decide)

theorem drawRect : Statement .drawRect := plain _ ⟨0x00000020, 0xFFFFFFFF⟩ (by decide) (by decide) (by decide)

theorem drawHline : Statement .drawHline := plain _ ⟨0x00000021, 0xFFFFFFFF⟩ (by decide) (by decide) (by decide)

theorem drawVline : Statement .drawVline := plain _ ⟨0x00000022, 0xFFFFFFFF⟩ (by decide) (by decide) (by decide)

theorem drawLine : Statement .drawLine := plain _ ⟨0x00000023, 0xFFFFFFFF⟩ (by decide) (by decide) (by decide)

theorem drawCircle : Statement .drawCircle := plain _ ⟨0x00000024, 0xFFFFFFFF⟩ (by decide) (by decide) (by decide)

theorem fillCircle : Statement .fillCircle := plain _ ⟨0x00000025, 0xFFFFFFFF⟩ (by decide) (by decide) (by decide)

theorem drawGlyph (ch : Byte) : Statement (.drawGlyph ch) := by
  revert ch; unfold Statement; decide

end Sys2Proof.Laws.EncodedWord
end

