-- ==== Sys2Proof/Tests/Slice0.lean ====
section
/-! SUPPORT. The model's own tests: words written out from the spec's encodings, the WellFormed smoke, vectors of 95_test_vectors.md,
and for each obligation with hypotheses a witness that meets them. -/

namespace Sys2Proof.Tests

open Sys2Proof Sys2Proof.Machine

/-! ## Helpers -/

/-- The defaults of 95_test_vectors.md with a small screen and the font of its glyph vectors (font 7; glyph 2 has only bit 7 set). -/
def cfg : Config :=
  { Config.standard with width := 240, height := 135, font := [⟨7, 1, 0x03, 0, 0, 0, 0x40⟩, ⟨7, 2, 0x80, 0x80, 0x80, 0x80, 0x80⟩] }

/-- READY with the given ARG0, ARG1, ARG2, COLOR. -/
def args (a0 a1 a2 color : Word) : State :=
  { State.resetWith cfg with session := .ready, arg0 := a0, arg1 := a1, arg2 := a2, color := color }

/-- UNINIT with the given pending moves. -/
def fresh (l : List Input) : State := { State.resetWith cfg with inputs := l }

/-- The transactions owed after an outcome; `none` when the machine stopped. -/
def owed : Host.Outcome State Fault Refusal → Option (List Txn)
  | .next t => some t.seq.todo
  | .fault _ => none
  | .refused _ => none

/-- STATUS after an outcome. -/
def status : Host.Outcome State Fault Refusal → Option Word
  | .next t => some t.status
  | .fault _ => none
  | .refused _ => none

/-- The four-byte data transactions owed after an outcome: the corners of the windows. -/
def corners : Host.Outcome State Fault Refusal → List (List Byte)
  | .next t => t.seq.todo.filterMap fun x => match x with
    | .data [a, b, c, d] => some [a, b, c, d]
    | _ => none
  | .fault _ => []
  | .refused _ => []

/-- The sequencer with one DELAY of 5 microseconds owed. -/
def delaying : State :=
  { args 0 0 5 0 with seq := { Seq.reset with phase := .run, op := 0x05, todo := [.delay 5] } }

/-- A sequencer that waits for data in a PIXELS stream. -/
def pixelsOpen : State :=
  { args 0 1 0 0 with seq := { Seq.reset with phase := .wait, op := 0x12, stream := .pixels } }

/-- A sequencer that waits for the last of two bytes of SEND_CMD's stream. -/
def bytesOpen : State :=
  { args 0 0 2 0 with
    seq := { Seq.reset with phase := .wait, op := 0x04, sub := 0x2A, stream := .bytes, remaining := 1, buf := [0x00] } }

/-- An OK answer. -/
def ok : Answer := ⟨.ok, 0, []⟩

/-- A DRAW_GLYPH of glyph 1 at (10, 10) that has sent `n` of its three PLOTs' eighteen transactions. -/
def glyphRunning (n : Nat) : State :=
  { args 0x000A000A 0 7 0 with
    seq := { Seq.reset with
      phase := .run, op := 0x26, sub := 1, args := (args 0x000A000A 0 7 0).operands, columns := glyphColumns cfg 7 1
      todo := (glyphTxns cfg (args 0x000A000A 0 7 0).operands (glyphColumns cfg 7 1)).drop n } }

/-! ## Decoding: each word written out bit by bit as RSV, SUB, OP from R120, R121 and R123 -/

theorem test_decode_hardReset : decode (0b0000000000000000#16 ++ 0b00000000#8 ++ 0b00000001#8) = some .hardReset := by decide
theorem test_decode_init : decode (0b0000000000000000#16 ++ 0b00000011#8 ++ 0b00000010#8) = some (.init 3) := by decide
theorem test_decode_setOrientation : decode (0b0000000000000000#16 ++ 0b00000010#8 ++ 0b00000011#8) = some (.setOrientation 2) := by decide
theorem test_decode_sendCmd : decode (0b0000000000000000#16 ++ 0b11101100#8 ++ 0b00000100#8) = some (.sendCmd 0xEC) := by decide
theorem test_decode_delay : decode (0b0000000000000000#16 ++ 0b00000000#8 ++ 0b00000101#8) = some .delay := by decide
theorem test_decode_setWindow : decode (0b0000000000000000#16 ++ 0b00000000#8 ++ 0b00010000#8) = some .setWindow := by decide
theorem test_decode_setPixel : decode (0b0000000000000000#16 ++ 0b00000000#8 ++ 0b00010001#8) = some .setPixel := by decide
theorem test_decode_setPixels : decode (0b0000000000000000#16 ++ 0b00000000#8 ++ 0b00010010#8) = some .setPixels := by decide
theorem test_decode_blit : decode (0b0000000000000000#16 ++ 0b00000000#8 ++ 0b00010011#8) = some .blit := by decide
theorem test_decode_endStream : decode (0b0000000000000000#16 ++ 0b00000000#8 ++ 0b00011111#8) = some .endStream := by decide
theorem test_decode_drawRect : decode (0b0000000000000000#16 ++ 0b00000000#8 ++ 0b00100000#8) = some .drawRect := by decide
theorem test_decode_drawHline : decode (0b0000000000000000#16 ++ 0b00000000#8 ++ 0b00100001#8) = some .drawHline := by decide
theorem test_decode_drawVline : decode (0b0000000000000000#16 ++ 0b00000000#8 ++ 0b00100010#8) = some .drawVline := by decide
theorem test_decode_drawLine : decode (0b0000000000000000#16 ++ 0b00000000#8 ++ 0b00100011#8) = some .drawLine := by decide
theorem test_decode_drawCircle : decode (0b0000000000000000#16 ++ 0b00000000#8 ++ 0b00100100#8) = some .drawCircle := by decide
theorem test_decode_fillCircle : decode (0b0000000000000000#16 ++ 0b00000000#8 ++ 0b00100101#8) = some .fillCircle := by decide
theorem test_decode_drawGlyph : decode (0b0000000000000000#16 ++ 0b01000001#8 ++ 0b00100110#8) = some (.drawGlyph 0x41) := by decide

/-- R125: reserved OP values on both sides of every assigned range. -/
theorem test_reserved_ops : [0x00, 0x06, 0x0F, 0x14, 0x1E, 0x27, 0xFF].all (fun n => decode (BitVec.ofNat 32 n) == none) = true := by decide

/-- L2-E2, L2-E3, L2-S14: RSV set, SUB set where it carries nothing, SUB[7:2] set. -/
theorem test_illegal_words : decode 0x00010020 = none ∧ decode 0x80000001 = none ∧ decode 0x00000120 = none ∧
    decode 0x00000402 = none ∧ decode 0x00008003 = none := by decide

/-- The table's numbering: bits above `nbits` are 0. -/
theorem test_decodeTableWord : decodeTableWord 32 0x00000102 = some (.init 1) ∧ decodeTableWord 8 0x00000102 = some (.init 0) := by decide

/-! ## WellFormed: the ill-formed terms the check refuses -/

theorem test_wf_refuses_init : (Instr.init 4).wf = false ∧ (Instr.init 0x80).wf = false ∧ (Instr.init 3).wf = true := by decide
theorem test_wf_refuses_setOrientation :
    (Instr.setOrientation 4).wf = false ∧ (Instr.setOrientation 0xFF).wf = false ∧ (Instr.setOrientation 0).wf = true := by decide

/-! ## One step of each operation, from 95_test_vectors.md -/

/-- L1-2. -/
theorem test_hardReset : owed (step (fresh [.hostWrite 4 0 0x00000001])) =
    some [.pin true, .delay 10, .pin false, .delay 10, .pin true, .delay 10] := by decide
/-- L2-S3. -/
theorem test_hardReset_no_pin :
    status (exec .hardReset { args 0 0 0 0 with cfg := { cfg with hasResetPin := false } }) = some 0x00000000 := by decide
/-- L2-S5, L1-11. -/
theorem test_init : owed (exec (.init 1) (fresh [])) =
    some [.cmd 0x01, .delay 150000, .cmd 0x11, .delay 10000, .cmd 0x3A, .data [0x05], .cmd 0x36, .data [0x60],
          .cmd 0x21, .cmd 0x13, .delay 10000, .cmd 0x29, .delay 10000] := by decide
/-- L2-S14. -/
theorem test_init_reserved_sub : status (step (fresh [.hostWrite 4 0 0x00000402])) = some 0x00000600 := by decide
/-- L1-3. -/
theorem test_setOrientation : owed (exec (.setOrientation 3) (args 0 0 0 0)) = some [.cmd 0x36, .data [0xA0]] := by decide
/-- L2-S9. -/
theorem test_setOrientation_uninit : status (step (fresh [.hostWrite 4 0 0x00000103])) = some 0x00000500 := by decide
/-- L2-S10. -/
theorem test_sendCmd : owed (exec (.sendCmd 0x2A) (args 0 0 2 0)) = some [.cmd 0x2A] := by decide
/-- L2-S12. -/
theorem test_delay : owed (exec .delay { fresh [] with arg2 := 120000 }) = some [.delay 120000] := by decide
/-- L2-W1. -/
theorem test_setWindow : owed (exec .setWindow { args 0x0014000A 0x0015000C 0 0 with offset := 0x00010002 }) =
    some [.cmd 0x2A, .data [0x00, 0x0C, 0x00, 0x0E], .cmd 0x2B, .data [0x00, 0x15, 0x00, 0x16]] := by decide
/-- L2-W3. -/
theorem test_setWindow_inverted : status (exec .setWindow (args 0x00000006 0x00000005 0 0)) = some 0x00000402 := by decide
/-- L2-W6. -/
theorem test_setPixel : owed (exec .setPixel { args 0x0000FFFE 0 0 0xABCD with offset := 0x00000001 }) =
    some [.cmd 0x2A, .data [0xFF, 0xFF, 0xFF, 0xFF], .cmd 0x2B, .data [0, 0, 0, 0], .cmd 0x2C, .data [0xAB, 0xCD]] := by decide
/-- L2-W7. -/
theorem test_setPixel_rgb888 :
    owed (exec .setPixel { args 0 0 0 0xFF112233 with cfg := { cfg with colorMode := .rgb888Legacy } }) =
      some [.cmd 0x2A, .data [0, 0, 0, 0], .cmd 0x2B, .data [0, 0, 0, 0], .cmd 0x2C, .data [0x11, 0x22, 0x33]] := by decide
/-- L2-W8: the head of SET_PIXELS. -/
theorem test_setPixels : owed (exec .setPixels (args 0 1 0 0)) =
    some [.cmd 0x2A, .data [0, 0, 0, 1], .cmd 0x2B, .data [0, 0, 0, 0], .cmd 0x2C] := by decide
/-- L2-W13: the head of BLIT. -/
theorem test_blit : owed (exec .blit (args 4 0x00010002 4 0)) =
    some [.cmd 0x2A, .data [0, 4, 0, 5], .cmd 0x2B, .data [0, 0, 0, 0], .cmd 0x2C] := by decide
/-- L2-W17: the product does not wrap. -/
theorem test_blit_huge : status (exec .blit (args 0 0xFFFFFFFF 0xFFFC0002 0)) = some 0x00000402 := by decide
/-- L2-W8: the stream's last chunk. -/
theorem test_endStream :
    owed (exec .endStream { pixelsOpen with seq := { pixelsOpen.seq with buf := [0x12, 0x34, 0xAB, 0xCD] } }) =
      some [.data [0x12, 0x34, 0xAB, 0xCD]] := by decide
/-- L2-S15: END_STREAM before the byte SEND_CMD asked for. -/
theorem test_endStream_short :
    status (exec .endStream { bytesOpen with seq := { bytesOpen.seq with buf := [] } }) = some 0x00000702 := by decide
/-- L1-1. -/
theorem test_drawRect : owed (exec .drawRect (args 0x000A000A 0x000B000B 0 0x0000FFFF)) =
    some [.cmd 0x2A, .data [0x00, 0x0A, 0x00, 0x0B], .cmd 0x2B, .data [0x00, 0x0A, 0x00, 0x0B],
          .cmd 0x2C, .data [0xFF, 0xFF, 0xFF, 0xFF, 0xFF, 0xFF, 0xFF, 0xFF]] := by decide
/-- L2-R3: a chunk boundary inside a word. -/
theorem test_drawRect_chunks :
    (owed (exec .drawRect { args 0 2 0 0x1234 with cfg := { cfg with batchBytes := 3 } })).map (List.drop 5) =
      some [.data [0x12, 0x34, 0x12], .data [0x34, 0x12, 0x34]] := by decide
/-- L2-R8, with `y1` not read. -/
theorem test_drawHline : owed (exec .drawHline (args 0x00050001 0x00000003 0 0x07E0)) =
    some [.cmd 0x2A, .data [0, 1, 0, 3], .cmd 0x2B, .data [0, 5, 0, 5], .cmd 0x2C,
          .data [0x07, 0xE0, 0x07, 0xE0, 0x07, 0xE0]] := by decide
/-- L2-R11: `x1` is not read. -/
theorem test_drawVline : owed (exec .drawVline (args 0x00050002 0x00050007 0 0x001F)) =
    some [.cmd 0x2A, .data [0, 2, 0, 2], .cmd 0x2B, .data [0, 5, 0, 5], .cmd 0x2C, .data [0x00, 0x1F]] := by decide
/-- L2-LINE (5,1)-(1,3). -/
theorem test_drawLine : linePixels .nearest 5 1 1 3 = [(5, 1), (4, 2), (3, 2), (2, 3), (1, 3)] ∧
    linePixels .truncate 5 1 1 3 = [(5, 1), (4, 1), (3, 2), (2, 2), (1, 3)] := by decide
/-- P4's line: each pixel's window in device coordinates, columns then rows. -/
theorem test_drawLine_windows :
    corners (exec .drawLine { args 0 0x00010002 0 0x07E0 with offset := 0x00010002 }) =
      [[0, 2, 0, 2], [0, 1, 0, 1], [0, 3, 0, 3], [0, 2, 0, 2], [0, 4, 0, 4], [0, 2, 0, 2]] := by decide
/-- L2-CIRCLE r = 1 at (10, 10). -/
theorem test_drawCircle : circlePoints 10 10 1 =
    [(10, 11), (10, 11), (10, 9), (10, 9), (11, 10), (9, 10), (11, 10), (9, 10),
     (11, 10), (9, 10), (11, 10), (9, 10), (10, 11), (10, 11), (10, 9), (10, 9)] := by decide
/-- L2-CIRCLE's XE table, and the value binary32 gets wrong (R242). -/
theorem test_octantBound : [0, 1, 2, 3, 4, 5, 10, 2378].map octantBound = [0, 1, 1, 2, 3, 4, 7, 1681] := by decide
/-- L2-CIRCLE's FILL_CIRCLE, r = 2. -/
theorem test_fillCircle : discColumns 10 10 2 = [(10, 8, 12), (10, 8, 12), (11, 9, 11), (9, 9, 11)] := by decide
/-- L2-CIRCLE: r = 1 with colour 0x07E0, the high half of ARG2 ignored. -/
theorem test_fillCircle_owed : owed (exec .fillCircle (args 0x000A000A 0 0x00050001 0x07E0)) =
    some [.cmd 0x2A, .data [0, 10, 0, 10], .cmd 0x2B, .data [0, 9, 0, 11], .cmd 0x2C, .data [0x07, 0xE0, 0x07, 0xE0, 0x07, 0xE0],
          .cmd 0x2A, .data [0, 10, 0, 10], .cmd 0x2B, .data [0, 9, 0, 11], .cmd 0x2C, .data [0x07, 0xE0, 0x07, 0xE0, 0x07, 0xE0]] := by
  decide
/-- The glyph vectors: (10, 10). -/
theorem test_drawGlyph : glyphPoints (glyphColumns cfg 7 1) 10 10 = [(10, 10), (10, 9), (6, 4)] := by decide
/-- The glyph vectors: a glyph with only bit 7 draws nothing and ends at once. -/
theorem test_drawGlyph_blank : status (exec (.drawGlyph 2) (args 0x000A000A 0 7 0)) = some 0x00000002 := by decide

/-! ## The host interface and the sequencer -/

/-- L2-W11: a datum while busy is dropped. -/
theorem test_datum_dropped :
    status (step { pixelsOpen with
      seq := { pixelsOpen.seq with phase := .run, todo := [.data [0, 1, 0, 2]] }, inputs := [.hostWrite 4 0x24 3] }) = some 0x0000000F := by
  decide
/-- L2-W10: the datum that fills a chunk of 4. -/
theorem test_datum_fills_chunk :
    owed (step { pixelsOpen with
      cfg := { cfg with batchBytes := 4 }, seq := { pixelsOpen.seq with buf := [0, 1] }, inputs := [.hostWrite 4 0x24 2] }) =
      some [.data [0, 1, 0, 2]] := by decide
/-- L2-S10: the second byte closes SEND_CMD's stream. -/
theorem test_last_byte : owed (step { bytesOpen with inputs := [.hostWrite 4 0x24 0x05] }) = some [.data [0x00, 0x05]] := by decide
/-- L2-S4's last response: FAIL_PIN ends HARD_RESET. -/
theorem test_fail_pin :
    status (step { fresh [.answer ⟨.failPin, 0, []⟩] with
      seq := { Seq.reset with phase := .run, op := 0x01, todo := [.pin false, .delay 10] } }) = some 0x00000200 := by decide
/-- R312 on the glyph vectors: while the first PLOT of column 0 is sent the table changes to one pixel in column 0 and one in column 1.
Column 0 stays (10, 10), (10, 9); column 1 is new, (9, 10); column 4 is drawn as the old one, (6, 4). -/
theorem test_fontChange :
    corners (step { glyphRunning 1 with inputs := [.fontChange [⟨7, 1, 0x10, 0x01, 0, 0, 0⟩] [true, true, true, true, false]] }) =
      [[0, 10, 0, 10], [0, 10, 0, 10], [0, 10, 0, 10], [0, 9, 0, 9], [0, 9, 0, 9], [0, 10, 0, 10], [0, 6, 0, 6], [0, 4, 0, 4]] := by decide
/-- R312: before the first transaction every column may be new; with none left to plot DRAW_GLYPH ends with NONE. -/
theorem test_fontChange_ends :
    status (step { glyphRunning 0 with inputs := [.fontChange [] [true, true, true, true, true]] }) = some 0x00000002 := by decide
/-- R300, R88: a block reset during a two-byte transaction, of which the first byte had arrived. -/
theorem test_blockReset_abandons :
    (match step { pixelsOpen with
        seq := { pixelsOpen.seq with phase := .run, todo := [.data [1, 2]], buf := [3] }, inputs := [.blockReset 1 []] } with
      | .next t => (t.abandoned, t.status, t.seq.todo)
      | .fault _ => ([], 0, [])
      | .refused _ => ([], 0, [])) = ([⟨.data [1, 2], [⟨.data, 1⟩]⟩], 0, []) := by decide
/-- R300: the late failure of an abandoned transaction does not touch the DELAY that runs by then. -/
theorem test_lateAnswer : owed (step { delaying with inputs := [.lateAnswer ⟨.failTransport, 0, []⟩] }) = some [.delay 5] := by decide
/-- L2-E9: bit 3 clear leaves `ovr`. -/
theorem test_status_w1c :
    status (step { args 0 0 0 0 with ovr := true, inputs := [.hostWrite 4 0x04 0xFFFFFFF7] }) = some 0x0000000A ∧
    status (step { args 0 0 0 0 with ovr := true, inputs := [.hostWrite 4 0x04 0x00000008] }) = some 0x00000002 := by decide
/-- The OK answer to INIT's last transaction: READY and the orientation (L2-S5), read back from ORIENT. -/
theorem test_init_completes :
    let s := { fresh [.answer ok] with seq := { Seq.reset with phase := .run, op := 0x02, sub := 1, todo := [.delay 10000] } }
    (match step s with
      | .next t => (t.status, readReg t 0x20)
      | .fault _ => (0, 0)
      | .refused _ => (0, 0)) = (0x00000002, 0x00006001) := by decide
/-- The word placed for the step is run as the first move after reset. -/
theorem test_withFetchWord : owed (step (State.reset.withFetchWord 32 0x00000005)) = some [.delay 0] := by decide
/-- The reference controller paints L1-1's four pixels. -/
theorem test_panel :
    let p : Panel := ⟨9, 9, 9, 9, 0, 0, .idle, [], fun _ _ => []⟩
    let q := Panel.feedAll cfg p ((rect cfg (args 0 0 0 0xFFFF).operands 10 10 11 11).flatMap Txn.pairs)
    [q.gram 10 10, q.gram 11 10, q.gram 10 11, q.gram 11 11, q.gram 12 10, q.gram 10 12, q.gram 9 10] =
      [[0xFF, 0xFF], [0xFF, 0xFF], [0xFF, 0xFF], [0xFF, 0xFF], [], [], []] := by decide
/-- R129: the expansion of `rect` and of `poll`'s loop test. -/
theorem test_expand : ((Pseudo.rect 10 10 11 11 0xFFFF).expand).map HostStmt.access =
    [.hostWrite 4 0x08 0x000A000A, .hostWrite 4 0x0C 0x000B000B, .hostWrite 4 0x14 0xFFFF, .hostWrite 4 0x00 0x20, .hostRead 4 0x04] ∧
    pollAgain 0x00000001 = true ∧ pollAgain 0x00000002 = false := by decide
/-- P1's accesses up to INIT (R305). -/
theorem test_boot : (bootSequence (some 0x00010002) 1).map HostStmt.access =
    [.hostWrite 4 0x18 0x00010002, .hostWrite 4 0x00 0x00000001, .hostRead 4 0x04, .hostWrite 4 0x00 0x00000102, .hostRead 4 0x04] := by decide

/-! ## Witnesses: for each obligation with hypotheses, inputs that meet them together -/

/-- No row of the table matches the word 0x27. -/
theorem no_row_27 : ∀ row ∈ opcodeTable, (0x00000027 : Word) &&& row.mask ≠ row.pattern := by decide

theorem args_accepting (a0 a1 a2 color : Word) : (args a0 a1 a2 color).accepting := ⟨nofun, rfl⟩

theorem fresh_accepting (l : List Input) : (fresh l).accepting := ⟨nofun, rfl⟩

/-- A running DELAY meets the invariant. -/
theorem delaying_inv : Inv delaying := by
  constructor <;> first | decide | (intro l h; simp [delaying] at h)

/-- An open PIXELS stream meets the invariant. -/
theorem pixelsOpen_inv : Inv pixelsOpen := by
  constructor <;> first | decide | (intro l h; simp [pixelsOpen, Seq.reset] at h)

/-- An open BYTES stream meets the invariant. -/
theorem bytesOpen_inv : Inv bytesOpen := by
  constructor <;> first | decide | (intro l h; simp [bytesOpen, Seq.reset] at h)

/-- A running DRAW_GLYPH meets the invariant while it owes something. -/
theorem glyphRunning_inv (n : Nat) (h : n < 18) : Inv (glyphRunning n) := by
  have hl : (glyphTxns cfg (args 0x000A000A 0 7 0).operands (glyphColumns cfg 7 1)).length = 18 := by decide
  have hz : ∀ t ∈ glyphTxns cfg (args 0x000A000A 0 7 0).operands (glyphColumns cfg 7 1),
      t.pairs ≠ [] ∧ t.payload.length ≤ 4 := by decide
  constructor
  case running =>
    intro _ h0
    have := List.drop_eq_nil_iff.mp h0
    omega
  case glyphOwed => intro _ _; exact List.drop_suffix _ _
  case dataSizes =>
    intro l hm
    have h4 := hz _ (List.mem_of_mem_drop hm)
    exact ⟨fun h0 => h4.1 (by rw [h0]; rfl), .inl (Nat.le_trans h4.2 (show 4 ≤ 128 by decide))⟩
  case bufSmall => exact Nat.zero_lt_succ _
  all_goals first | decide | (intros; first | rfl | contradiction)

/-- The invariant does not read the pending moves. -/
theorem inv_inputs (s : State) (l : List Input) (h : Inv s) : Inv { s with inputs := l } := by
  cases h; constructor <;> assumption

theorem witness_DecodeAndEncodeAgree : (Instr.init 3).wf = true ∧ (Instr.drawGlyph 0xFF).wf = true ∧
    decode 0x00000302 = some (.init 3) ∧ decode 0x0000FF26 = some (.drawGlyph 0xFF) := by decide

theorem witness_StepRunsTheDecodedCommand :
    (fresh [.hostWrite 4 0x00 0x00000302]).inputs = .hostWrite 4 0x00 0x00000302 :: [] ∧ decode 0x00000302 = some (.init 3) := by decide

theorem witness_IllegalWordsAreRejectedAlike :
    (fresh [.hostWrite 4 0x00 0x27]).inputs = .hostWrite 4 0x00 0x27 :: [] ∧
    (∀ row ∈ opcodeTable, (0x00000027 : Word) &&& row.mask ≠ row.pattern) ∧
    delaying.seq.phase = .run ∧ pixelsOpen.seq.stream ≠ .none ∧ (fresh [.hostWrite 4 0x00 0x27]).accepting :=
  ⟨rfl, no_row_27, rfl, nofun, fresh_accepting _⟩

/-- One state for each of the five clauses. -/
theorem witness_DroppedWritesSetOnlyOvr :
    delaying.seq.phase = .run ∧ (pixelsOpen.seq.phase ≠ .run ∧ pixelsOpen.seq.stream ≠ .none) ∧
    ((fresh []).seq.phase ≠ .run ∧ (fresh []).seq.stream = .none) ∧
    { delaying with inputs := [.hostWrite 4 0x24 0] }.inputs = .hostWrite 4 0x24 0 :: [] ∧
    { pixelsOpen with inputs := [.hostWrite 4 0x00 0x20] }.inputs = .hostWrite 4 0x00 0x20 :: [] ∧
    (fresh [.hostWrite 4 0x00 0x1F]).inputs = .hostWrite 4 0x00 0x1F :: [] := by decide

theorem witness_RejectionsBeforeTheChecks :
    (args 0 0 0 0).accepting ∧ (fresh []).accepting ∧ 4 ≤ (4 : Byte).toNat ∧ (fresh []).session = .uninit ∧
    Instr.drawRect.wf = true ∧ Instr.drawRect ≠ .hardReset ∧ (∀ sub, Instr.drawRect ≠ .init sub) ∧ Instr.drawRect ≠ .delay ∧
    Instr.drawRect ≠ .endStream :=
  ⟨args_accepting .., fresh_accepting _, by decide, rfl, rfl, nofun, nofun, nofun, nofun⟩

/-- Each clause at the edge of its check: offset (1, 1) against 0xFFFF, corners inverted by one, a length off by one, a radius past the edge, a cell past it. -/
theorem witness_FailedChecksAreInvalidInput :
    let s := { args 0x0000FFFF 0x0000FFFF 3 0 with offset := 0x00010001 }
    let g := args 0x00060003 0x00010001 4 0
    s.accepting ∧ s.session = .ready ∧ g.accepting ∧ g.session = .ready ∧
    ¬ ((s.arg1.extractLsb' 0 16).toNat + (s.offset.extractLsb' 0 16).toNat ≤ 0xFFFF) ∧
    ¬ ((s.arg0.extractLsb' 0 16).toNat + (s.offset.extractLsb' 0 16).toNat ≤ 0xFFFF) ∧
    ¬ (g.arg2.toNat = (g.arg1.extractLsb' 0 16).toNat * (g.arg1.extractLsb' 16 16).toNat * 2) ∧
    ¬ ((g.arg0.extractLsb' 0 16).toNat ≤ (g.arg1.extractLsb' 0 16).toNat) ∧
    ¬ ((g.arg0.extractLsb' 16 16).toNat ≤ (g.arg1.extractLsb' 16 16).toNat) ∧
    ¬ (max (s.arg0.extractLsb' 0 16).toNat (s.arg1.extractLsb' 0 16).toNat + (s.offset.extractLsb' 0 16).toNat ≤ 0xFFFF) ∧
    ¬ ((g.arg2.extractLsb' 0 16).toNat ≤ (g.arg0.extractLsb' 0 16).toNat) ∧ ¬ (4 ≤ (g.arg0.extractLsb' 0 16).toNat) :=
  ⟨⟨nofun, rfl⟩, rfl, args_accepting .., rfl, by decide, by decide, by decide, by decide, by decide, by decide, by decide, by decide⟩

theorem witness_HardResetStarts :
    (fresh []).accepting ∧ (fresh []).cfg.hasResetPin = true ∧
    (State.resetWith { cfg with hasResetPin := false }).accepting ∧ (State.resetWith { cfg with hasResetPin := false }).cfg.hasResetPin = false :=
  ⟨fresh_accepting _, rfl, ⟨nofun, rfl⟩, rfl⟩

theorem witness_InitStarts : (fresh []).accepting ∧ (3 : Byte).toNat < 4 := ⟨fresh_accepting _, by decide⟩

theorem witness_SetOrientationStarts : (args 0 0 0 0).accepting ∧ (args 0 0 0 0).session = .ready ∧ (3 : Byte).toNat < 4 :=
  ⟨args_accepting .., rfl, by decide⟩

/-- N = 0 with the ignored high half set, and N = 1. -/
theorem witness_SendCmdStarts :
    (args 0 0 0x00010000 0).accepting ∧ (args 0 0 0x00010000 0).session = .ready ∧ (args 0 0 0x00010000 0).arg2.extractLsb' 0 16 = 0 ∧
    (args 0 0 1 0).accepting ∧ (args 0 0 1 0).session = .ready ∧ (args 0 0 1 0).arg2.extractLsb' 0 16 ≠ 0 :=
  ⟨args_accepting .., rfl, by decide, args_accepting .., rfl, by decide⟩

theorem witness_DelayStarts : (fresh []).accepting := fresh_accepting _

/-- Device coordinates at 0xFFFF exactly. -/
def edge : State := { args 0x0000FFFE 0x0000FFFE 0 0 with offset := 0x00000001 }

theorem witness_SetWindowAndSetPixelStart :
    edge.accepting ∧ edge.session = .ready ∧ edge.operands.x0.toNat ≤ edge.operands.x1.toNat ∧
    edge.operands.y0.toNat ≤ edge.operands.y1.toNat ∧ edge.operands.x1.toNat + edge.operands.offx.toNat ≤ 0xFFFF ∧
    edge.operands.y1.toNat + edge.operands.offy.toNat ≤ 0xFFFF ∧ edge.operands.x0.toNat + edge.operands.offx.toNat ≤ 0xFFFF ∧
    edge.operands.y0.toNat + edge.operands.offy.toNat ≤ 0xFFFF :=
  ⟨⟨nofun, rfl⟩, rfl, by decide, by decide, by decide, by decide, by decide, by decide⟩

/-- BLIT's last column at 0xFFFF. -/
theorem witness_SetPixelsAndBlitStart :
    let s := args 0x0000FFFE 0x00010002 4 0
    let a := s.operands
    edge.accepting ∧ edge.session = .ready ∧ edge.operands.x0.toNat ≤ edge.operands.x1.toNat ∧
    edge.operands.y0.toNat ≤ edge.operands.y1.toNat ∧ edge.operands.x1.toNat + edge.operands.offx.toNat ≤ 0xFFFF ∧
    edge.operands.y1.toNat + edge.operands.offy.toNat ≤ 0xFFFF ∧
    s.accepting ∧ s.session = .ready ∧ a.aux.toNat = a.x1.toNat * a.y1.toNat * 2 ∧ 1 ≤ a.x1.toNat ∧ 1 ≤ a.y1.toNat ∧
    a.x0.toNat + a.x1.toNat - 1 + a.offx.toNat ≤ 0xFFFF ∧ a.y0.toNat + a.y1.toNat - 1 + a.offy.toNat ≤ 0xFFFF :=
  ⟨⟨nofun, rfl⟩, rfl, by decide, by decide, by decide, by decide, args_accepting .., rfl, by decide, by decide, by decide, by decide, by decide⟩

/-- A stream with a byte buffered, and one with none. -/
theorem witness_EndStreamCloses :
    bytesOpen.seq.phase = .wait ∧ bytesOpen.seq.stream ≠ .none ∧ bytesOpen.seq.todo = [] ∧ bytesOpen.seq.buf ≠ [] ∧
    pixelsOpen.seq.phase = .wait ∧ pixelsOpen.seq.stream ≠ .none ∧ pixelsOpen.seq.todo = [] ∧ pixelsOpen.seq.buf = [] ∧
    pixelsOpen.seq.op ≠ 0x02 ∧ pixelsOpen.seq.op ≠ 0x03 := by decide

theorem witness_DrawRectStarts :
    edge.accepting ∧ edge.session = .ready ∧ edge.operands.x0.toNat ≤ edge.operands.x1.toNat ∧
    edge.operands.y0.toNat ≤ edge.operands.y1.toNat ∧ edge.operands.x1.toNat + edge.operands.offx.toNat ≤ 0xFFFF ∧
    edge.operands.y1.toNat + edge.operands.offy.toNat ≤ 0xFFFF :=
  ⟨⟨nofun, rfl⟩, rfl, by decide, by decide, by decide, by decide⟩

/-- DRAW_HLINE with a `y1` that would be out of order, DRAW_VLINE with such an `x1`. -/
theorem witness_AxisLinesStart :
    let h := args 0x00050001 0x00000003 0 0
    let v := args 0x00000002 0x00010001 0 0
    h.accepting ∧ h.session = .ready ∧ h.operands.x0.toNat ≤ h.operands.x1.toNat ∧ h.operands.x1.toNat + h.operands.offx.toNat ≤ 0xFFFF ∧
    h.operands.y0.toNat + h.operands.offy.toNat ≤ 0xFFFF ∧
    v.accepting ∧ v.session = .ready ∧ v.operands.y0.toNat ≤ v.operands.y1.toNat ∧ v.operands.x0.toNat + v.operands.offx.toNat ≤ 0xFFFF ∧
    v.operands.y1.toNat + v.operands.offy.toNat ≤ 0xFFFF :=
  ⟨args_accepting .., rfl, by decide, by decide, by decide, args_accepting .., rfl, by decide, by decide, by decide⟩

/-- The four cases: vertical (zero length), horizontal, shallow, and steep at exactly 45 degrees. -/
theorem witness_DrawLineStarts :
    [args 0x00030003 0x00030003 0 0, args 0x00000005 0x00000001 0 0, args 0 0x00020004 0 0, args 0 0x00030003 0 0].all (fun s =>
      s.seq.phase != .run && s.seq.stream == .none && s.session == .ready &&
      decide (max s.operands.x0.toNat s.operands.x1.toNat + s.operands.offx.toNat ≤ 0xFFFF) &&
      decide (max s.operands.y0.toNat s.operands.y1.toNat + s.operands.offy.toNat ≤ 0xFFFF)) = true ∧
    (args 0x00030003 0x00030003 0 0).operands.x0 = (args 0x00030003 0x00030003 0 0).operands.x1 ∧
    ((args 0x00000005 0x00000001 0 0).operands.x0 ≠ (args 0x00000005 0x00000001 0 0).operands.x1 ∧
      (args 0x00000005 0x00000001 0 0).operands.y0 = (args 0x00000005 0x00000001 0 0).operands.y1) ∧
    ((0 : Nat) ≠ 4 ∧ (0 : Nat) ≠ 2 ∧ max 0 2 - min 0 2 < max 0 4 - min 0 4) ∧
    ((0 : Nat) ≠ 3 ∧ max 0 3 - min 0 3 ≤ max 0 3 - min 0 3) := by decide

/-- A circle that touches the window's corner. -/
theorem witness_DrawCircleStarts :
    let s := args 0x00030003 0 3 0
    let r := (s.arg2.extractLsb' 0 16).toNat
    s.accepting ∧ s.session = .ready ∧ r ≤ s.operands.x0.toNat ∧ r ≤ s.operands.y0.toNat ∧
    s.operands.x0.toNat + r + s.operands.offx.toNat ≤ 0xFFFF ∧ s.operands.y0.toNat + r + s.operands.offy.toNat ≤ 0xFFFF :=
  ⟨args_accepting .., rfl, by decide, by decide, by decide, by decide⟩

/-- Radius 0 with the ignored high half set, and radius 1. -/
theorem witness_FillCircleStarts :
    [args 0x00000000 0 0x00050000 0, args 0x000A000A 0 1 0].all (fun s =>
      s.seq.phase != .run && s.seq.stream == .none && s.session == .ready &&
      decide ((s.arg2.extractLsb' 0 16).toNat ≤ s.operands.x0.toNat) && decide ((s.arg2.extractLsb' 0 16).toNat ≤ s.operands.y0.toNat) &&
      decide (s.operands.x0.toNat + (s.arg2.extractLsb' 0 16).toNat + s.operands.offx.toNat ≤ 0xFFFF) &&
      decide (s.operands.y0.toNat + (s.arg2.extractLsb' 0 16).toNat + s.operands.offy.toNat ≤ 0xFFFF)) = true ∧
    ((args 0x00000000 0 0x00050000 0).arg2.extractLsb' 0 16).toNat = 0 ∧ ((args 0x000A000A 0 1 0).arg2.extractLsb' 0 16).toNat ≠ 0 := by
  decide

/-- The smallest anchor; a glyph with set bits and one with none. -/
theorem witness_DrawGlyphStarts :
    let s := args 0x00060004 0 7 0
    s.accepting ∧ s.session = .ready ∧ 4 ≤ s.operands.x0.toNat ∧ 6 ≤ s.operands.y0.toNat ∧
    s.operands.x0.toNat + s.operands.offx.toNat ≤ 0xFFFF ∧ s.operands.y0.toNat + s.operands.offy.toNat ≤ 0xFFFF ∧
    (∃ col < 5, ∃ row < 7, (fontColumn s.cfg (s.arg2.extractLsb' 0 8) 1 col).getLsbD row = true) ∧
    (∀ col < 5, ∀ row < 7, (fontColumn s.cfg (s.arg2.extractLsb' 0 8) 2 col).getLsbD row = false) :=
  ⟨args_accepting .., rfl, by decide, by decide, by decide, by decide, by decide, by decide⟩

/-- No glyph running; nothing sent; the last transaction of column 4's only PLOT owed, all five columns read; a table that ends the glyph. -/
theorem witness_FontChangeMixesOnlyLaterColumns :
    Inv (glyphRunning 0) ∧ Inv (glyphRunning 17) ∧
    let a := (glyphRunning 0).seq.args
    let owedBy (cols : List Byte) : List Txn := (List.range 5).flatMap fun col => (List.range 7).flatMap fun row =>
      if (cols[col]?.getD 0).getLsbD row = true then plot cfg a (a.x0.toNat - col) (a.y0.toNat - row) else []
    let q := (glyphRunning 0).seq
    let r := (glyphRunning 17).seq
    ¬ (delaying.seq.phase = .run ∧ delaying.seq.op = 0x26) ∧ q.phase = .run ∧ q.op = 0x26 ∧ [] ++ q.todo = owedBy q.columns ∧
    (owedBy r.columns).take 17 ++ r.todo = owedBy r.columns ∧ (owedBy (r.columns.take 4)).length < 17 ∧
    17 ≤ (owedBy (r.columns.take 5)).length ∧ (owedBy [0, 0, 0, 0, 0]).drop 0 = [] :=
  ⟨glyphRunning_inv 0 (by decide), glyphRunning_inv 17 (by decide), by decide⟩

/-- One state for each of the six clauses: more owed; a stream open; the three openings; the end. -/
theorem witness_OkAnswerDecidesWhatFollows :
    let opening (op : Byte) : Seq := { Seq.reset with phase := .run, op := op, next := .openStream, todo := [.cmd 0x2C] }
    let flush : Seq := { Seq.reset with phase := .run, op := 0x12, stream := .pixels, todo := [.data [0, 1]] }
    [opening 0x12, opening 0x13, opening 0x04, flush, delaying.seq, { delaying.seq with todo := [.delay 5, .delay 6] }].all
      (fun q => q.phase == .run && !q.todo.isEmpty) = true ∧
    { delaying with inputs := [.answer ok] }.inputs = .answer ok :: [] ∧ ok.response = .ok ∧
    (opening 0x12).stream = .none ∧ (opening 0x12).next = .openStream ∧ flush.stream ≠ .none ∧
    delaying.seq.stream = .none ∧ delaying.seq.next = .finish := by decide

/-- Each of the three failures is in the response set of some transaction. -/
theorem witness_FailureEndsTheOperation :
    responseAllowed cfg (.cmd 0x2A) .failTransport = true ∧ responseAllowed cfg (.data [0]) .failDc = true ∧
    responseAllowed cfg (.pin true) .failPin = true ∧
    ∃ (s : State) (a : Answer), s.seq.phase = .run ∧ s.seq.todo = .cmd 0x2A :: [] ∧ s.inputs = .answer a :: [] ∧
      a.response = .failTransport ∧ s.cfg = cfg :=
  ⟨rfl, rfl, rfl, { fresh [.answer ⟨.failTransport, 0, []⟩] with seq := { Seq.reset with phase := .run, todo := [.cmd 0x2A] } },
    _, rfl, rfl, rfl, rfl, rfl⟩

theorem witness_OperationRunsToCompletion :
    let s := { delaying with inputs := [.answer ok] }
    s.seq.phase = .run ∧ s.seq.todo ≠ [] ∧ s.seq.stream = .none ∧ s.seq.next = .finish ∧ s.seq.remaining = 0 ∧
    [ok].length = s.seq.todo.length ∧ (∀ a ∈ [ok], a.response = .ok) ∧ s.inputs = answerInputs [ok] ++ [] := by decide

theorem witness_FirstFailureCutsTheOperation :
    let f : Answer := ⟨.failDc, 1, [.data]⟩
    let s := { fresh [.answer ok, .answer f] with seq := { Seq.reset with phase := .run, todo := [.delay 5, .cmd 0x29, .delay 6] } }
    s.seq.phase = .run ∧ s.seq.todo = [.delay 5] ++ .cmd 0x29 :: [.delay 6] ∧ [ok].length = [Txn.delay 5].length ∧
    (∀ a ∈ [ok], a.response = .ok) ∧ responseAllowed s.cfg (.cmd 0x29) f.response = true ∧ f.response ≠ .ok ∧
    s.inputs = answerInputs [ok] ++ .answer f :: [] := by decide

/-- Each of the four operations with its answers. -/
theorem witness_SessionOperationsRunThrough :
    (fresh (.hostWrite 4 0x00 0x00000001 :: answerInputs (List.replicate 6 ok))).accepting ∧
    (fresh (.hostWrite 4 0x00 (encode (.init 3)) :: answerInputs (List.replicate 13 ok))).accepting ∧
    (args 0 0 0 0).accepting ∧ (args 0 0 0 0).session = .ready ∧ (3 : Byte).toNat < 4 ∧ cfg.hasResetPin = true ∧ cfg.invertOn = true ∧
    (∀ a ∈ List.replicate 13 ok, a.response = .ok) ∧ (List.replicate 13 ok).length = (if cfg.invertOn = true then 13 else 12) ∧
    (fresh (.hostWrite 4 0x00 0x00000001 :: answerInputs (List.replicate 6 ok))).inputs =
      .hostWrite 4 0x00 0x00000001 :: (answerInputs (List.replicate 6 ok) ++ []) ∧
    { args 0 0 0 0 with inputs := [.hostWrite 4 0x00 0x303, .answer ok, .answer ok] }.inputs =
      .hostWrite 4 0x00 (encode (.setOrientation 3)) :: (answerInputs [ok, ok] ++ []) ∧
    (fresh [.hostWrite 4 0x00 0x05, .answer ok]).inputs = .hostWrite 4 0x00 0x00000005 :: (answerInputs [ok] ++ []) :=
  ⟨fresh_accepting _, fresh_accepting _, args_accepting .., rfl, by decide, rfl, rfl, by decide, by decide, by decide, by decide, by decide⟩

theorem witness_DatumFollowsEverythingOwed :
    (pixelsOpen.seq.phase ≠ .run ∧ pixelsOpen.seq.stream ≠ .none ∧ pixelsOpen.seq.stream = .pixels) ∧
    (bytesOpen.seq.phase ≠ .run ∧ bytesOpen.seq.stream ≠ .none ∧ bytesOpen.seq.stream = .bytes) ∧
    { pixelsOpen with inputs := [.hostWrite 4 0x24 7] }.inputs = .hostWrite 4 0x24 7 :: [] ∧
    { bytesOpen with inputs := [.hostWrite 4 0x24 7] }.inputs = .hostWrite 4 0x24 7 :: [] := by decide

theorem witness_OkAnswerKeepsTheByteStream :
    let s := { delaying with inputs := [.answer ok] }
    Inv s ∧ s.seq.phase = .run ∧ s.inputs = .answer ok :: [] ∧ ok.response = .ok :=
  ⟨inv_inputs _ _ delaying_inv, rfl, rfl, rfl⟩

/-- One byte short of a chunk in each kind of stream, and exactly a chunk in each. -/
theorem witness_DatumIsBufferedOrFillsChunks :
    let c := { cfg with batchBytes := 4 }
    let p := { pixelsOpen with cfg := c, seq := { pixelsOpen.seq with buf := [0] } }
    let b := { bytesOpen with cfg := c, seq := { bytesOpen.seq with buf := [0, 0], remaining := 2 } }
    (p.seq.phase = .wait ∧ p.seq.todo = [] ∧ p.seq.stream = .pixels ∧ p.seq.buf.length + (pix p.cfg 0).length < p.cfg.batchBytes) ∧
    (b.seq.phase = .wait ∧ b.seq.todo = [] ∧ b.seq.stream = .bytes ∧ b.seq.buf.length + 1 < b.cfg.batchBytes ∧ b.seq.remaining ≠ 1) ∧
    { p with inputs := [.hostWrite 4 0x24 7] }.inputs = .hostWrite 4 0x24 7 :: [] ∧
    1 ≤ c.batchBytes ∧ c.batchBytes ≤ (([0, 0] : List Byte) ++ pix c 0).length ∧ c.batchBytes ≤ (([0, 0, 0] : List Byte) ++ [0]).length := by decide

theorem witness_LastByteClosesTheStream :
    let s := { bytesOpen with inputs := [.hostWrite 4 0x24 7] }
    s.seq.phase = .wait ∧ s.seq.stream = .bytes ∧ s.seq.remaining = 1 ∧ s.inputs = .hostWrite 4 0x24 7 :: [] := by decide

theorem witness_EveryStepKeepsTheInvariant :
    (∃ s t, Inv s ∧ s.seq.phase = .run ∧ step s = .next t) ∧ (∃ s t, Inv s ∧ s.seq.stream = .pixels ∧ step s = .next t) ∧
    (∃ s t, Inv s ∧ s.seq.stream = .bytes ∧ step s = .next t) :=
  ⟨⟨_, _, inv_inputs _ [.answer ok] delaying_inv, rfl, rfl⟩, ⟨_, _, inv_inputs _ [.hostWrite 4 0x24 7] pixelsOpen_inv, rfl, rfl⟩,
    ⟨_, _, inv_inputs _ [.hostWrite 4 0x24 7] bytesOpen_inv, rfl, rfl⟩⟩

theorem witness_InvariantHoldsAtReset : cfg.valid = true := by decide

/-- INIT with its last transaction owed. -/
def initEnding : State :=
  { fresh [.answer ok] with seq := { Seq.reset with phase := .run, op := 0x02, sub := 1, todo := [.delay 10000] } }

/-- A HARD_RESET that leaves READY, an INIT whose end changes both, and a block reset. -/
theorem witness_SessionAndOrientationChangeOnlyBy :
    let s := { args 0 0 0 0 with inputs := [.hostWrite 4 0x00 0x00000001] }
    let r := { args 0 0 0 0 with orient := 2, inputs := [.blockReset 0 []] }
    (Inv s ∧ ∃ t, step s = .next t ∧ t.session ≠ s.session) ∧
    (Inv initEnding ∧ ∃ t, step initEnding = .next t ∧ t.session ≠ initEnding.session ∧ t.orient ≠ initEnding.orient) ∧
    (Inv r ∧ ∃ t, step r = .next t ∧ t.session ≠ r.session ∧ t.orient ≠ r.orient) := by
  refine ⟨⟨?_, _, rfl, by decide⟩, ⟨?_, _, rfl, by decide, by decide⟩, ⟨?_, _, rfl, by decide, by decide⟩⟩ <;>
    constructor <;> first | decide | (intro l h; simp [args, initEnding, fresh, State.resetWith, Seq.reset] at h)

theorem witness_ParametersStayAndHistoryGrowsByOne :
    ∃ t, step { delaying with inputs := [.answer ok] } = .next t ∧
      ∀ d m, { delaying with inputs := [.answer ok] }.inputs.head? ≠ some (.blockReset d m) := ⟨_, rfl, nofun⟩

theorem witness_HostAccessLeavesARunningOperationAlone :
    let s := { delaying with inputs := [.hostWrite 4 0x08 7] }
    s.seq.phase = .run ∧ s.inputs = .hostWrite 4 0x08 7 :: [] ∧
    (∃ width off v, Input.hostWrite 4 0x08 7 = .hostWrite width off v) ∧ ∃ t, step s = .next t := ⟨rfl, rfl, ⟨_, _, _, rfl⟩, _, rfl⟩

theorem witness_QuietStatusMeansEverythingSent :
    let s := args 0 0 0 0
    Inv s ∧ (readReg s 0x04).getLsbD 0 = false ∧ (readReg s 0x04).getLsbD 2 = false := by
  refine ⟨?_, by decide, by decide⟩
  constructor <;> first | decide | (intro l h; simp [args, State.resetWith, Seq.reset] at h)

/-- An accepted operation of each group. -/
theorem witness_OperationsSendOnlyTheirOpcodes :
    (args 0 0 0 0).accepting ∧ (∃ t, exec .drawRect (args 0 0 0 0) = .next t ∧ t.seq.phase = .run) ∧
    (∃ t, exec .hardReset (args 0 0 0 0) = .next t ∧ t.seq.phase = .run) ∧ (∃ t, exec (.init 0) (args 0 0 0 0) = .next t ∧ t.seq.phase = .run) ∧
    (∃ t, exec (.setOrientation 0) (args 0 0 0 0) = .next t ∧ t.seq.phase = .run) ∧
    (∃ t, exec (.sendCmd 0x2C) (args 0 0 0 0) = .next t ∧ t.seq.phase = .run) :=
  ⟨args_accepting .., ⟨_, rfl, by decide⟩, ⟨_, rfl, by decide⟩, ⟨_, rfl, by decide⟩, ⟨_, rfl, by decide⟩, ⟨_, rfl, by decide⟩⟩

theorem witness_StatusRegister :
    (fresh [.hostRead 4 0x04]).inputs = .hostRead 4 0x04 :: [] ∧ (fresh [.hostWrite 4 0x04 8]).inputs = .hostWrite 4 0x04 8 :: [] := by decide

/-- The first and the last offset of the window. -/
theorem witness_ReadsHaveNoSideEffect :
    (0x00 % 4 = 0 ∧ 0x00 < 64 ∧ (fresh [.hostRead 4 0x00]).inputs = .hostRead 4 0x00 :: []) ∧
    (0x3C % 4 = 0 ∧ 0x3C < 64 ∧ (fresh [.hostRead 4 0x3C]).inputs = .hostRead 4 0x3C :: []) := by decide

/-- OFFSET, and the reserved offsets' two ends. -/
theorem witness_RegisterWrites :
    (fresh [.hostWrite 4 0x18 7]).inputs = .hostWrite 4 0x18 7 :: [] ∧ (fresh [.hostWrite 4 0x28 7]).inputs = .hostWrite 4 0x28 7 :: [] ∧
    (0x28 % 4 = 0 ∧ 0x28 < 64) ∧ (0x3C % 4 = 0 ∧ 0x3C < 64 ∧ 0x28 ≤ 0x3C) := by decide

/-- A narrow access, a misaligned one, the first offset beyond the window, another master. -/
theorem witness_UndefinedAccessesAreRefused :
    (fresh [.hostRead 2 0x04]).inputs = .hostRead 2 0x04 :: [] ∧ (2 : Nat) ≠ 4 ∧
    (fresh [.hostWrite 4 0x06 7]).inputs = .hostWrite 4 0x06 7 :: [] ∧ 0x06 % 4 ≠ 0 ∧
    (fresh [.hostRead 4 0x40]).inputs = .hostRead 4 0x40 :: [] ∧ 0x40 % 4 = 0 ∧ 64 ≤ 0x40 ∧
    (fresh [.otherMaster]).inputs = .otherMaster :: [] := by decide

/-- A block reset in WAIT and in RUN, a delivery with a mode changed, and a late answer. -/
theorem witness_ResetValues :
    { pixelsOpen with inputs := [.blockReset 0 []] }.inputs = .blockReset 0 [] :: [] ∧ pixelsOpen.seq.phase ≠ .run ∧
    delaying.seq.phase = .run ∧ delaying.seq.todo = .delay 5 :: [] ∧ cfg.transport = .spiDcPin ∧
    ([⟨.cmd, 1⟩] : List WirePair).map WirePair.byte <+: (Txn.data [1, 2]).pairs.map WirePair.byte ∧
    { delaying with inputs := [.lateAnswer ok] }.inputs = .lateAnswer ok :: [] ∧ State.reset = State.resetWith Config.standard :=
  ⟨rfl, nofun, rfl, rfl, rfl, by decide, rfl, rfl⟩

theorem witness_ResponseSets :
    let s := { delaying with inputs := [.answer ⟨.failPin, 0, []⟩] }
    s.seq.phase = .run ∧ s.seq.todo = .delay 5 :: [] ∧ s.inputs = .answer ⟨.failPin, 0, []⟩ :: [] := by decide

/-- A proper prefix, and a full delivery with a mode changed. -/
theorem witness_DeliveryOfATransaction :
    [(⟨.data, 1⟩ : WirePair)] <+: (Txn.data [1, 2]).pairs ∧
    ([(⟨.cmd, 1⟩ : WirePair), ⟨.data, 2⟩]).map WirePair.byte <+: (Txn.data [1, 2]).pairs.map WirePair.byte ∧
    ok.response = .ok := by decide

theorem witness_BatchingChangesNoByte : 1 ≤ { cfg with batchBytes := 1 }.batchBytes ∧ (1 : Nat) ≤ 65535 := by decide

theorem witness_WindowAndColourBytes :
    (0xFFFF : Word).toNat ≤ 0xFFFF ∧ cfg.colorMode = .rgb565 ∧ { cfg with colorMode := .rgb888Legacy }.colorMode = .rgb888Legacy := by decide

theorem witness_LineStepperIsTheRoundedLine : (0 : Nat) ≠ 4 ∧ (0 : Nat) ≠ 2 := by decide

/-- A shallow line, and one at exactly 45 degrees. -/
theorem witness_LineIsConnected :
    ((5 : Nat) ≠ 1 ∧ (1 : Nat) ≠ 3 ∧ absDiff 1 3 < absDiff 5 1 ∧ (linePixels .nearest 5 1 1 3)[3]? = some (2, 3) ∧
      (linePixels .nearest 5 1 1 3)[4]? = some (1, 3)) ∧
    ((0 : Nat) ≠ 3 ∧ absDiff 0 3 ≤ absDiff 0 3) := by decide

theorem witness_CircleIsSymmetric : (1 : Nat) ≤ 1 ∧ (1 : Nat) ≤ 10 ∧ (0, 10) ∈ circlePoints 1 10 1 := by decide

/-- A colour word exactly as long as a chunk. -/
theorem witness_TransactionCounts :
    bytesPerColor { cfg with batchBytes := 2 } ≤ { cfg with batchBytes := 2 }.batchBytes ∧
    (args 0 0x00020004 0 0).operands.x0 ≠ (args 0 0x00020004 0 0).operands.x1 ∧
    (args 0 0x00020004 0 0).operands.y0 ≠ (args 0 0x00020004 0 0).operands.y1 ∧
    (args 0x00030003 0 3 0).operands.radius ≤ (args 0x00030003 0 3 0).operands.y0.toNat := by decide

/-- A window at the far corner of the address space. -/
theorem witness_WindowIsPaintedRowMajor :
    Config.windowOpcodesDistinct cfg ∧ 0xFFFE ≤ 0xFFFF ∧ 0xFFFF ≤ 0xFFFF ∧
    (List.replicate 8 (0 : Byte)).length = (0xFFFF - 0xFFFE + 1) * (0xFFFF - 0xFFFE + 1) * bytesPerColor cfg :=
  ⟨by unfold Config.windowOpcodesDistinct; decide, by decide, by decide, by decide⟩

theorem witness_DrawRectPaintsItsRectangle :
    (args 0 1 0 7).accepting ∧ Config.windowOpcodesDistinct (args 0 1 0 7).cfg ∧ 1 ≤ (args 0 1 0 7).cfg.batchBytes ∧
    ∃ t, exec .drawRect (args 0 1 0 7) = .next t ∧ t.seq.phase = .run :=
  ⟨args_accepting .., by unfold Config.windowOpcodesDistinct; decide, by decide, _, rfl, by decide⟩

/-- A failure followed by another event and an INIT alone; and an admitted controller after a failure, a hard reset, an INIT and a window. -/
theorem witness_PanelFollowsOnlyFromASyncPoint :
    let failed : Event := ⟨.cmd 0x2B, .failDc, [⟨.data, 0x2B⟩]⟩
    cfg.hasResetPin = true ∧ failed.response ≠ .ok ∧ (∀ x ∈ [failed], ∀ level, x.txn ≠ .pin level) ∧
    cfg.opCaset ≠ cfg.opRaset ∧ cfg.opSwreset ≠ cfg.opCaset ∧ cfg.opSwreset ≠ cfg.opRaset ∧ 0xFFFF ≤ 0xFFFF ∧
    ∃ p, Panel.Admitted cfg
      ([failed] ++ okEvents (hardResetTxns cfg) ++ okEvents (initTxns cfg 1) ++ okEvents (win cfg 0 0xFFFF 0xFFFF 0xFFFF)) p :=
  ⟨rfl, nofun, by simp, by decide, by decide, by decide, by decide, _,
    Panel.admitted_feedAll _ _ ⟨9, 9, 9, 9, 0, 0, .idle, [], fun _ _ => []⟩⟩

end Sys2Proof.Tests
end

section
/-! PROOFS. The integer square root (O50), and the screen's size, which no command reads (O38). -/

namespace Sys2Proof.Machine

/-! ### The integer square root (R23) -/

/-- Deciding the `k` low bits keeps the root below its upper bound: if `y` is a root from below and `y + 2 ^ k` is past
the root, the answer is the floor root. -/
theorem isqrtBits_bounds (k n y : Nat) (hlow : y * y ≤ n) (hhigh : n < (y + 2 ^ k) * (y + 2 ^ k)) :
    isqrtBits k n y * isqrtBits k n y ≤ n ∧ n < (isqrtBits k n y + 1) * (isqrtBits k n y + 1) := by
  induction k generalizing y with
  | zero => exact ⟨hlow, hhigh⟩
  | succ k ih =>
    rw [isqrtBits]
    have hpow : 2 ^ (k + 1) = 2 ^ k + 2 ^ k := Nat.two_pow_succ k
    split
    next hbit => exact ih _ hbit (by rwa [Nat.add_assoc, ← hpow])
    next hbit => exact ih y hlow (by omega)

/-- The first bit `isqrt` decides is above the root's. -/
theorem lt_isqrt_start (n : Nat) : n < 2 ^ (n.log2 / 2 + 1) * 2 ^ (n.log2 / 2 + 1) := by
  calc n < 2 ^ (n.log2 + 1) := Nat.lt_log2_self
    _ ≤ 2 ^ ((n.log2 / 2 + 1) + (n.log2 / 2 + 1)) := Nat.pow_le_pow_right (by decide) (by omega)
    _ = _ := Nat.pow_add ..

theorem isqrt_bounds (n : Nat) : isqrt n * isqrt n ≤ n ∧ n < (isqrt n + 1) * (isqrt n + 1) :=
  isqrtBits_bounds _ n 0 (Nat.zero_le n) (by simpa using lt_isqrt_start n)

/-- Settles O50: a larger `y` would have a square of at least `(isqrt n + 1) ^ 2`, past `n`. -/
theorem isqrtIsTheFloorRoot : Obligations.IsqrtIsTheFloorRoot := by
  intro n
  obtain ⟨hlow, hhigh⟩ := isqrt_bounds n
  refine ⟨hlow, fun y hy => ?_⟩
  by_contra hlt
  have : (isqrt n + 1) * (isqrt n + 1) ≤ y * y := Nat.mul_self_le_mul_self (by omega)
  omega

/-! ### The screen's width and height (R9, R94) -/

/-- The same state with another screen size. -/
def State.withScreen (w h : Half) (s : State) : State := s.setCfg { s.cfg with width := w, height := h }

section
variable (w h : Half) (s : State)

@[simp] theorem withScreen_seq : (s.withScreen w h).seq = s.seq := rfl
@[simp] theorem withScreen_session : (s.withScreen w h).session = s.session := rfl

@[simp] theorem setSeq_withScreen (q : Seq) : (s.withScreen w h).setSeq q = (s.setSeq q).withScreen w h := rfl
@[simp] theorem drop_withScreen : drop (s.withScreen w h) = (drop s).withScreen w h := rfl
@[simp] theorem reject_withScreen (e : ErrCode) : reject e (s.withScreen w h) = (reject e s).withScreen w h := rfl
@[simp] theorem accept_withScreen (o : Operation) : accept o (s.withScreen w h) = (accept o s).withScreen w h := rfl

@[simp] theorem endOperation_withScreen : endOperation (s.withScreen w h) = (endOperation s).withScreen w h := by
  rw [endOperation_eq, endOperation_eq]; rfl

@[simp] theorem endIfDrained_withScreen : endIfDrained (s.withScreen w h) = (endIfDrained s).withScreen w h := by
  simp [endIfDrained, apply_ite (State.withScreen w h)]

@[simp] theorem start_withScreen (o : Operation) : start o (s.withScreen w h) = (start o s).withScreen w h := by
  simp [start, apply_ite (State.withScreen w h)]

@[simp] theorem takeEndStream_withScreen : takeEndStream (s.withScreen w h) = (takeEndStream s).withScreen w h := by
  simp [takeEndStream, apply_ite (State.withScreen w h)]

end

/-- A word stands for the same operation whatever the screen's size: no transaction list and no check reads it. -/
theorem exec_start_withScreen (i : Instr) (s : State) (w h : Half) (hne : i ≠ .endStream) :
    ∃ o : Operation, exec i s = .next (start o s) ∧ exec i (s.withScreen w h) = .next (start o (s.withScreen w h)) := by
  cases i
  case endStream => exact absurd rfl hne
  all_goals exact ⟨_, rfl, rfl⟩

/-- Settles O38: every word is END_STREAM or evaluates one operation, and both commute with a change of the screen's size. -/
theorem screenSizeIsNeverChecked : Obligations.ScreenSizeIsNeverChecked := by
  intro i s w h
  by_cases hi : i = .endStream
  · subst hi
    exact ⟨_, rfl, congrArg Host.Outcome.next (takeEndStream_withScreen w h s)⟩
  · obtain ⟨o, hs, hw⟩ := exec_start_withScreen i s w h hi
    exact ⟨_, hs, hw.trans (congrArg Host.Outcome.next (start_withScreen w h s o))⟩

end Sys2Proof.Machine
end

section
/-! PROOFS. The sequencer's invariant: every move of the outside world keeps it (O33), and it holds after reset (O34). -/

namespace Sys2Proof.Machine

/-! ### Sizes of data transactions (R84) -/

/-- Every data transaction of the list has a byte, and at most `B` of them or the 4 of a window (R84). -/
def DataSized (c : Config) (l : List Txn) : Prop :=
  ∀ b, Txn.data b ∈ l → b ≠ [] ∧ (b.length ≤ c.batchBytes ∨ b.length = 4)

theorem DataSized.subset {c : Config} {l m : List Txn} (h : DataSized c m) (hs : l ⊆ m) : DataSized c l :=
  fun b hb => h b (hs hb)

@[simp] theorem dataSized_nil (c : Config) : DataSized c [] := nofun

@[simp] theorem dataSized_append (c : Config) (l m : List Txn) :
    DataSized c (l ++ m) ↔ DataSized c l ∧ DataSized c m := by
  simp only [DataSized, List.mem_append]
  exact ⟨fun h => ⟨fun b hb => h b (.inl hb), fun b hb => h b (.inr hb)⟩, fun h b hb => hb.elim (h.1 b) (h.2 b)⟩

@[simp] theorem dataSized_cmd_cons (c : Config) (b : Byte) (l : List Txn) :
    DataSized c (.cmd b :: l) ↔ DataSized c l := by simp [DataSized]

@[simp] theorem dataSized_pin_cons (c : Config) (level : Bool) (l : List Txn) :
    DataSized c (.pin level :: l) ↔ DataSized c l := by simp [DataSized]

@[simp] theorem dataSized_delay_cons (c : Config) (us : Word) (l : List Txn) :
    DataSized c (.delay us :: l) ↔ DataSized c l := by simp [DataSized]

@[simp] theorem dataSized_data_cons (c : Config) (b : List Byte) (l : List Txn) :
    DataSized c (.data b :: l) ↔ (b ≠ [] ∧ (b.length ≤ c.batchBytes ∨ b.length = 4)) ∧ DataSized c l := by
  rw [← List.singleton_append, dataSized_append]
  simp [DataSized]

theorem dataSized_flatMap {α : Type} (c : Config) (l : List α) (f : α → List Txn) (h : ∀ x ∈ l, DataSized c (f x)) :
    DataSized c (l.flatMap f) := by
  intro b hb
  obtain ⟨x, hx, hxb⟩ := List.mem_flatMap.mp hb
  exact h x hx b hxb

@[simp] theorem dataSized_fullChunks (c : Config) (l : List Byte) : DataSized c (fullChunks c l) := by
  intro b hb
  obtain ⟨p, hp, hlen, hpos⟩ := cutFull_sizes _ _ _ _ hb
  cases hp
  exact ⟨List.ne_nil_of_length_pos (by omega), .inl (by omega)⟩

theorem dataSized_lastChunk (c : Config) (l : List Byte) (h : l.length ≤ c.batchBytes) : DataSized c (lastChunk l) := by
  unfold lastChunk
  split
  next => simp
  next hne => simpa [h] using hne

theorem dataSized_winAt (c : Config) {a : Operands} {x0 y0 x1 y1 : Nat} : DataSized c (winAt c a x0 y0 x1 y1) := by
  simp [winAt, win, be16]

theorem dataSized_openRect (c : Config) {a : Operands} {x0 y0 x1 y1 : Nat} : DataSized c (openRect c a x0 y0 x1 y1) := by
  simp [openRect, dataSized_winAt]

theorem dataSized_hardResetTxns (c : Config) : DataSized c (hardResetTxns c) := by
  unfold hardResetTxns
  split <;> simp

section
variable (c : Config) (hB : 1 ≤ c.batchBytes)
include hB

theorem dataSized_fill {color : Word} {n : Nat} : DataSized c (fill c color n) := by
  rw [fill, chunks, dataSized_append]
  exact ⟨dataSized_fullChunks _ _, dataSized_lastChunk _ _ (leftOver_lt _ _ hB).le⟩

theorem dataSized_rect {a : Operands} {x0 y0 x1 y1 : Nat} : DataSized c (rect c a x0 y0 x1 y1) :=
  (dataSized_append ..).mpr ⟨dataSized_openRect c, dataSized_fill c hB⟩

theorem dataSized_plot {a : Operands} {x y : Nat} : DataSized c (plot c a x y) :=
  (dataSized_append ..).mpr ⟨dataSized_openRect c, dataSized_fill c hB⟩

theorem dataSized_plotAll {a : Operands} {l : List (Nat × Nat)} : DataSized c (plotAll c a l) :=
  dataSized_flatMap c l _ fun _ _ => dataSized_plot c hB

theorem dataSized_lineTxns (a : Operands) : DataSized c (lineTxns c a) := by
  unfold lineTxns
  split
  · exact dataSized_rect c hB
  · split
    · exact dataSized_rect c hB
    · exact dataSized_plotAll c hB

theorem dataSized_discTxns (a : Operands) : DataSized c (discTxns c a) :=
  dataSized_flatMap c _ _ fun _ _ => dataSized_rect c hB

theorem dataSized_orientationTxns (o : BitVec 2) : DataSized c (orientationTxns c o) := by
  simp [orientationTxns, hB]

theorem dataSized_initTxns (o : BitVec 2) : DataSized c (initTxns c o) := by
  cases h : c.invertOn <;> simp [initTxns, hB, h]

end

/-! ### States the invariant carries over to -/

theorem batch_pos_of_valid {c : Config} (h : c.valid = true) : 1 ≤ c.batchBytes := by
  simp only [Config.valid, Bool.and_eq_true, decide_eq_true_eq] at h
  omega

theorem Inv.batch_pos {s : State} (hi : Inv s) : 1 ≤ s.cfg.batchBytes := batch_pos_of_valid hi.cfgValid

/-- The invariant speaks of the parameters, the session, the error state and the sequencer only. -/
theorem Inv.congr {s t : State} (hi : Inv s) (hc : t.cfg = s.cfg) (hs : t.session = s.session) (he : t.err = s.err)
    (hq : t.seq = s.seq) : Inv t := by
  cases hi
  constructor <;> simp only [hc, hs, he, hq] <;> assumption

/-- It does not speak of the font table, which enters only through a glyph's columns. -/
theorem Inv.setFont {s : State} (hi : Inv s) (table : List Glyph) : Inv (s.setCfg { s.cfg with font := table }) := by
  cases hi; constructor <;> assumption

/-- IDLE with nothing owed, buffered or open meets the invariant, whatever the rest of the sequencer holds. -/
theorem inv_of_idle {s : State} (hv : s.cfg.valid = true) (hp : s.seq.phase = .idle) (hs : s.seq.stream = .none)
    (ht : s.seq.todo = []) (hb : s.seq.buf = []) : Inv s where
  cfgValid := hv
  idle _ := ⟨hs, ht⟩
  waiting h := by simp [hp] at h
  running h := by simp [hp] at h
  streamOpen h := absurd hs h
  pixelsOp h := by simp [hs] at h
  bytesOp h := by simp [hs] at h
  opening h := by simp [hp] at h
  closedBuf _ := hb
  bufSmall := hb.symm ▸ batch_pos_of_valid hv
  dataSizes := by simp [ht]
  short h := by simp [hp] at h
  uninitOp _ h := by simp [hp] at h
  glyphOwed h := by simp [hp] at h
  busyErr h := absurd hp h

/-- An operation that ends with no stream open and nothing owed leaves the invariant (R275 case (d)). -/
theorem inv_endOperation {s : State} (hv : s.cfg.valid = true) (hs : s.seq.stream = .none) (ht : s.seq.todo = []) :
    Inv (endOperation s) := by
  rw [endOperation_eq]
  exact inv_of_idle hv rfl hs ht rfl

theorem Inv.waits_of_streaming {s : State} (hi : Inv s) (hp : s.seq.phase ≠ .run) (hs : s.seq.stream ≠ .none) :
    s.seq.phase = .wait ∧ s.seq.todo = [] := by
  cases h : s.seq.phase with
  | idle => exact absurd (hi.idle h).1 hs
  | run => exact absurd h hp
  | wait => exact ⟨rfl, (hi.waiting h).2⟩

theorem Inv.idle_of_accepting {s : State} (hi : Inv s) (hp : s.seq.phase ≠ .run) (hs : s.seq.stream = .none) :
    s.seq.phase = .idle ∧ s.seq.todo = [] := by
  cases h : s.seq.phase with
  | idle => exact ⟨rfl, (hi.idle h).2⟩
  | run => exact absurd h hp
  | wait => exact absurd hs (hi.waiting h).1

/-- A running operation that owes other transactions, for a DRAW_GLYPH with other columns perhaps, still meets the invariant. -/
theorem Inv.owes {s : State} (hi : Inv s) (todo : List Txn) (columns : List Byte) (hp : s.seq.phase = .run)
    (hne : todo ≠ []) (hsized : DataSized s.cfg todo)
    (hglyph : s.seq.op = 0x26 → todo <:+ glyphTxns s.cfg s.seq.args columns) :
    Inv (s.setSeq { s.seq with todo := todo, columns := columns }) where
  cfgValid := hi.cfgValid
  idle h := by simp [hp] at h
  waiting h := by simp [hp] at h
  running _ := hne
  streamOpen := hi.streamOpen
  pixelsOp := hi.pixelsOp
  bytesOp := hi.bytesOp
  opening := hi.opening
  closedBuf := hi.closedBuf
  bufSmall := hi.bufSmall
  dataSizes := hsized
  short := hi.short
  uninitOp := hi.uninitOp
  glyphOwed _ := hglyph
  busyErr := hi.busyErr

/-! ### An open stream -/

/-- What the invariant says of a state with a stream open, but for its phase and what it owes. -/
structure Streaming (s : State) : Prop where
  cfgValid : s.cfg.valid = true
  stream : s.seq.stream ≠ .none
  next : s.seq.next = .finish
  ready : s.session = .ready
  pixelsOp : s.seq.stream = .pixels → s.seq.op = 0x12 ∧ s.seq.remaining = 0
  bytesOp : s.seq.stream = .bytes → (s.seq.op = 0x13 ∨ s.seq.op = 0x04) ∧ s.seq.remaining ≠ 0
  bufSmall : s.seq.buf.length < s.cfg.batchBytes
  errNone : s.err = .none

theorem Inv.streaming {s : State} (hi : Inv s) (hs : s.seq.stream ≠ .none) : Streaming s where
  cfgValid := hi.cfgValid
  stream := hs
  next := (hi.streamOpen hs).1
  ready := (hi.streamOpen hs).2
  pixelsOp := hi.pixelsOp
  bytesOp := hi.bytesOp
  bufSmall := hi.bufSmall
  errNone := hi.busyErr fun h => hs (hi.idle h).1

/-- DRAW_GLYPH opens no stream. -/
theorem Streaming.op_ne_glyph {s : State} (h : Streaming s) : s.seq.op ≠ 0x26 := by
  intro hop
  cases hk : s.seq.stream with
  | none => exact h.stream hk
  | pixels => simpa [hop] using (h.pixelsOp hk).1
  | bytes => simpa [hop] using (h.bytesOp hk).1

/-- A stream waiting for a datum, with nothing owed, meets the invariant. -/
theorem Streaming.waits {s : State} (h : Streaming s) (hp : s.seq.phase = .wait) (ht : s.seq.todo = []) : Inv s where
  cfgValid := h.cfgValid
  idle hw := by simp [hp] at hw
  waiting _ := ⟨h.stream, ht⟩
  running hr := by simp [hp] at hr
  streamOpen _ := ⟨h.next, h.ready⟩
  pixelsOp := h.pixelsOp
  bytesOp := h.bytesOp
  opening hr := by simp [hp] at hr
  closedBuf hs := absurd hs h.stream
  bufSmall := h.bufSmall
  dataSizes := by simp [ht]
  short hr := by simp [hp] at hr
  uninitOp _ hr := by simp [hp] at hr
  glyphOwed hr := by simp [hp] at hr
  busyErr _ := h.errNone

/-- A stream that sends the chunks it owes meets the invariant. -/
theorem Streaming.runs {s : State} (h : Streaming s) (hp : s.seq.phase = .run) (ht : s.seq.todo ≠ [])
    (hsized : DataSized s.cfg s.seq.todo) : Inv s where
  cfgValid := h.cfgValid
  idle hw := by simp [hp] at hw
  waiting hw := by simp [hp] at hw
  running _ := ht
  streamOpen _ := ⟨h.next, h.ready⟩
  pixelsOp := h.pixelsOp
  bytesOp := h.bytesOp
  opening _ hn := by simp [h.next] at hn
  closedBuf hs := absurd hs h.stream
  bufSmall := h.bufSmall
  dataSizes := hsized
  short _ hs := absurd hs h.stream
  uninitOp hu := by simp [h.ready] at hu
  glyphOwed _ hop := absurd hop h.op_ne_glyph
  busyErr _ := h.errNone

/-! ### Command words (R272) -/

theorem Inv.drop {s : State} (hi : Inv s) : Inv (drop s) := hi.congr rfl rfl rfl rfl

theorem Inv.reject {s : State} (hi : Inv s) (e : ErrCode) (hp : s.seq.phase ≠ .run) (hs : s.seq.stream = .none) :
    Inv (reject e s) := by
  obtain ⟨hidle, htodo⟩ := hi.idle_of_accepting hp hs
  exact inv_of_idle hi.cfgValid hidle hs htodo (hi.closedBuf hs)

/-- What the invariant needs of an operation that is about to be accepted in `s`. -/
structure Operation.Sound (o : Operation) (s : State) : Prop where
  sized : DataSized s.cfg o.todo
  opens : o.checks = true → o.next = .openStream → o.inUninit = false ∧
    (o.op = 0x12 ∨ (o.op = 0x13 ∧ s.operands.aux ≠ 0) ∨ (o.op = 0x04 ∧ s.operands.count ≠ 0))
  uninit : o.inUninit = true → o.op = 0x01 ∨ o.op = 0x02 ∨ o.op = 0x05
  unready : o.unready = true → o.inUninit = true
  glyph : o.op = 0x26 → o.todo = glyphTxns s.cfg s.operands o.columns

/-- An operation valid only in READY that opens no stream and draws no glyph owes the invariant its sizes alone. -/
theorem Operation.Sound.of_sized {o : Operation} {s : State} (hsized : DataSized s.cfg o.todo) (hnext : o.next = .finish)
    (hready : o.inUninit = false) (hun : o.unready = false) (hop : o.op ≠ 0x26) : o.Sound s where
  sized := hsized
  opens _ h := by simp [hnext] at h
  uninit h := by simp [hready] at h
  unready h := by simp [hun] at h
  glyph h := absurd h hop

/-- A word accepted with transactions owed (R272 step 6). -/
theorem Inv.accept {s : State} (hi : Inv s) {o : Operation} (ho : o.Sound s) (hs : s.seq.stream = .none)
    (hval : s.session = .ready ∨ o.inUninit = true) (hchk : o.checks = true) (htodo : o.todo ≠ []) :
    Inv (accept o s) where
  cfgValid := hi.cfgValid
  idle := nofun
  waiting := nofun
  running _ := htodo
  streamOpen h := absurd hs h
  pixelsOp h := by simp [Machine.accept, acceptSeq, hs] at h
  bytesOp h := by simp [Machine.accept, acceptSeq, hs] at h
  opening _ hn := by
    obtain ⟨hun, hop⟩ := ho.opens hchk hn
    have hready : s.session = .ready := hval.resolve_right (by simp [hun])
    have hkeep : o.unready = false := by
      cases h : o.unready with
      | false => rfl
      | true => simp [ho.unready h] at hun
    exact ⟨by simp [Machine.accept, hkeep, hready], hs, rfl, hop⟩
  closedBuf _ := rfl
  bufSmall := hi.batch_pos
  dataSizes := ho.sized
  short _ _ _ h := absurd rfl h
  uninitOp hsess _ := by
    apply ho.uninit
    cases h : o.unready with
    | true => exact ho.unready h
    | false =>
      have hsess' : s.session = .uninit := by simpa [Machine.accept, h] using hsess
      exact hval.resolve_left (by simp [hsess'])
  glyphOwed _ hop := (ho.glyph hop).symm ▸ List.suffix_refl _
  busyErr _ := rfl

/-- A starting word keeps the invariant, whichever of R272's outcomes it has. -/
theorem Inv.start {s : State} (hi : Inv s) {o : Operation} (ho : o.Sound s) : Inv (start o s) := by
  rcases start_cases o s with ⟨-, h⟩ | ⟨hp, hs, ⟨e, -, h⟩ | ⟨-, hval, hchk, ⟨htodo, h⟩ | ⟨htodo, h⟩⟩⟩ <;> rw [h]
  · exact hi.drop
  · exact hi.reject e hp hs
  · exact inv_endOperation hi.cfgValid hs htodo
  · exact hi.accept ho hs hval hchk htodo

theorem Inv.startIllegal {s : State} (hi : Inv s) : Inv (startIllegal s) := by
  unfold Machine.startIllegal
  split_ifs with hp hs
  · exact hi.drop
  · exact hi.drop
  · exact hi.reject _ hp (not_ne_iff.mp hs)

theorem aux_ne_zero_of_blitOk (a : Operands) (h : blitOk a = true) : a.aux ≠ 0 := by
  obtain ⟨haux, hw, hh, -, -⟩ := (blitOk_iff a).mp h
  have hpos : 0 < a.x1.toNat * a.y1.toNat := Nat.mul_pos hw hh
  have hne : a.aux.toNat ≠ 0 := by omega
  intro h0
  simp [h0] at hne

/-- Each meaning but END_STREAM's is the evaluation of an operation that is sound. -/
theorem exec_is_sound_start (i : Instr) (s : State) (hB : 1 ≤ s.cfg.batchBytes) (hne : i ≠ .endStream) :
    ∃ o : Operation, exec i s = .next (start o s) ∧ o.Sound s := by
  cases i with
  | hardReset => exact ⟨_, rfl, dataSized_hardResetTxns _, nofun, fun _ => .inl rfl, fun _ => rfl, nofun⟩
  | init sub => exact ⟨_, rfl, dataSized_initTxns _ hB _, nofun, fun _ => .inr (.inl rfl), nofun, nofun⟩
  | setOrientation sub => exact ⟨_, rfl, .of_sized (dataSized_orientationTxns _ hB _) rfl rfl rfl nofun⟩
  | sendCmd op =>
    refine ⟨_, rfl, by simp, fun _ h => ⟨rfl, .inr (.inr ⟨rfl, fun h0 => ?_⟩)⟩, nofun, nofun, nofun⟩
    simp [h0] at h
  | delay => exact ⟨_, rfl, by simp, nofun, fun _ => .inr (.inr rfl), nofun, nofun⟩
  | setWindow => exact ⟨_, rfl, .of_sized (dataSized_winAt _) rfl rfl rfl nofun⟩
  | setPixel => exact ⟨_, rfl, .of_sized (dataSized_plot _ hB) rfl rfl rfl nofun⟩
  | setPixels => exact ⟨_, rfl, dataSized_openRect _, fun _ _ => ⟨rfl, .inl rfl⟩, nofun, nofun, nofun⟩
  | blit =>
    exact ⟨_, rfl, dataSized_openRect _, fun h _ => ⟨rfl, .inr (.inl ⟨rfl, aux_ne_zero_of_blitOk _ h⟩)⟩, nofun, nofun, nofun⟩
  | endStream => exact absurd rfl hne
  | drawRect => exact ⟨_, rfl, .of_sized (dataSized_rect _ hB) rfl rfl rfl nofun⟩
  | drawHline => exact ⟨_, rfl, .of_sized (dataSized_rect _ hB) rfl rfl rfl nofun⟩
  | drawVline => exact ⟨_, rfl, .of_sized (dataSized_rect _ hB) rfl rfl rfl nofun⟩
  | drawLine => exact ⟨_, rfl, .of_sized (dataSized_lineTxns _ hB _) rfl rfl rfl nofun⟩
  | drawCircle => exact ⟨_, rfl, .of_sized (dataSized_plotAll _ hB) rfl rfl rfl nofun⟩
  | fillCircle => exact ⟨_, rfl, .of_sized (dataSized_discTxns _ hB _) rfl rfl rfl nofun⟩
  | drawGlyph ch => exact ⟨_, rfl, dataSized_plotAll _ hB, nofun, nofun, nofun, fun _ => rfl⟩

/-! ### Streams (R186, R195, R196) -/

/-- Closing a stream keeps the invariant, also right after a datum: `remaining`, `todo` and `buf` may be the datum's. -/
theorem Inv.closeStream {s : State} (hi : Inv s) (hs : s.seq.stream ≠ .none) (remaining : Word) (todo : List Txn)
    (buf : List Byte) (hrem : s.seq.stream = .pixels → remaining = 0) (htodo : DataSized s.cfg todo)
    (hbuf : buf.length < s.cfg.batchBytes) :
    Inv (endIfDrained (s.setSeq (closeStream { s.seq with remaining := remaining, todo := todo, buf := buf }))) := by
  have hstr := hi.streaming hs
  unfold endIfDrained
  split
  next hnil => exact inv_endOperation hi.cfgValid rfl (List.isEmpty_iff.mp hnil)
  next hne =>
    exact {
      cfgValid := hi.cfgValid
      idle := nofun
      waiting := nofun
      running := fun _ h => hne (List.isEmpty_iff.mpr h)
      streamOpen := fun h => absurd rfl h
      pixelsOp := nofun
      bytesOp := nofun
      opening := fun _ h => by simp [Machine.closeStream, hstr.next] at h
      closedBuf := fun _ => rfl
      bufSmall := hi.batch_pos
      dataSizes := (dataSized_append _ _ _).mpr ⟨htodo, dataSized_lastChunk _ _ hbuf.le⟩
      short := fun _ _ _ h => by
        cases hk : s.seq.stream with
        | none => exact absurd hk hs
        | pixels => exact absurd (hrem hk) h
        | bytes => exact (hi.bytesOp hk).1
      uninitOp := fun h => by simp [hstr.ready] at h
      glyphOwed := fun _ h => absurd h hstr.op_ne_glyph
      busyErr := fun _ => hstr.errNone }

theorem Inv.takeEndStream {s : State} (hi : Inv s) : Inv (takeEndStream s) := by
  rcases takeEndStream_cases s with ⟨-, h⟩ | ⟨hp, hs, h⟩ <;> rw [h]
  · exact hi.drop
  · exact hi.closeStream hs s.seq.remaining s.seq.todo s.seq.buf (fun h => (hi.pixelsOp h).2) hi.dataSizes hi.bufSmall

theorem dataSized_bufferDatum {s : State} (hi : Inv s) (w : Word) : DataSized s.cfg (bufferDatum s.cfg s.seq w).todo :=
  (dataSized_append _ _ _).mpr ⟨hi.dataSizes, dataSized_fullChunks _ _⟩

theorem bufferDatum_small {s : State} (hi : Inv s) (w : Word) : (bufferDatum s.cfg s.seq w).buf.length < s.cfg.batchBytes :=
  leftOver_lt _ _ hi.batch_pos

/-- A datum that is not the last leaves the stream open (R186). -/
theorem Inv.streaming_bufferDatum {s : State} (hi : Inv s) (w : Word) (hs : s.seq.stream ≠ .none)
    (hrem : s.seq.stream = .bytes → s.seq.remaining - 1 ≠ 0) (phase : Phase) :
    Streaming (s.setSeq { bufferDatum s.cfg s.seq w with phase := phase }) :=
  { hi.streaming hs with
    pixelsOp := fun h => by
      replace h : s.seq.stream = .pixels := h
      simpa [bufferDatum, h] using hi.pixelsOp h
    bytesOp := fun h => by
      replace h : s.seq.stream = .bytes := h
      simpa [bufferDatum, h] using ⟨(hi.bytesOp h).1, hrem h⟩
    bufSmall := bufferDatum_small hi w }

theorem Inv.takeDatum {s : State} (hi : Inv s) (w : Word) : Inv (takeDatum w s) := by
  rcases takeDatum_cases w s with ⟨-, h⟩ | ⟨hp, hs, ⟨hk, -, h⟩ | ⟨hrem, ⟨htodo, h⟩ | ⟨htodo, h⟩⟩⟩ <;> rw [h]
  · exact hi.drop
  · exact hi.closeStream hs _ _ _ (fun h => by simp [hk] at h) (dataSized_bufferDatum hi w) (bufferDatum_small hi w)
  · exact (hi.streaming_bufferDatum w hs hrem s.seq.phase).waits (hi.waits_of_streaming hp hs).1 htodo
  · exact (hi.streaming_bufferDatum w hs hrem .run).runs rfl htodo (dataSized_bufferDatum hi w)

/-! ### The sequencer's step (R275, R276) -/

theorem count_zeroExtend_ne_zero (a : Operands) (h : a.count ≠ 0) : a.count.zeroExtend 32 ≠ 0 := by
  intro h0
  apply h
  bv_omega

theorem openStream_pixels (q : Seq) (h : q.op = 0x12) :
    openStream q = { q with stream := .pixels, buf := [], next := .finish, phase := .wait } := if_pos h

theorem openStream_blit (q : Seq) (h : q.op = 0x13) : openStream q =
    { q with stream := .bytes, remaining := q.args.aux, buf := [], next := .finish, phase := .wait } := by
  simp [openStream, h, opcSetPixels, opcBlit]

theorem openStream_sendCmd (q : Seq) (h : q.op = 0x04) : openStream q =
    { q with stream := .bytes, remaining := q.args.count.zeroExtend 32, next := .finish, phase := .wait } := by
  simp [openStream, h, opcSetPixels, opcBlit]

/-- The stream that an operation opens is the one its OP names, with a byte still to come if it counts bytes (R275 case (c)). -/
theorem Inv.openStream {s : State} (hi : Inv s) (hp : s.seq.phase = .run) (hn : s.seq.next = .openStream) :
    Inv (s.setSeq (openStream { s.seq with todo := [] })) := by
  obtain ⟨hready, hs, hrem, hop⟩ := hi.opening hp hn
  have herr : s.err = .none := hi.busyErr (by simp [hp])
  rcases hop with hop | ⟨hop, haux⟩ | ⟨hop, hcount⟩
  · rw [openStream_pixels { s.seq with todo := [] } hop]
    exact Streaming.waits ⟨hi.cfgValid, nofun, rfl, hready, fun _ => ⟨hop, hrem⟩, nofun, hi.batch_pos, herr⟩ rfl rfl
  · rw [openStream_blit { s.seq with todo := [] } hop]
    exact Streaming.waits ⟨hi.cfgValid, nofun, rfl, hready, nofun, fun _ => ⟨.inl hop, haux⟩, hi.batch_pos, herr⟩ rfl rfl
  · rw [openStream_sendCmd { s.seq with todo := [] } hop]
    exact Streaming.waits ⟨hi.cfgValid, nofun, rfl, hready, nofun,
      fun _ => ⟨.inr hop, count_zeroExtend_ne_zero _ hcount⟩, hi.bufSmall, herr⟩ rfl rfl

/-- With the last transaction answered the sequencer waits, opens its stream or ends (R275 cases (b) to (d)). -/
theorem Inv.drained {s : State} (hi : Inv s) (hp : s.seq.phase = .run) : Inv (drained (s.setSeq { s.seq with todo := [] })) := by
  rcases drained_cases (s.setSeq { s.seq with todo := [] }) with ⟨hs, h⟩ | ⟨-, hn, h⟩ | ⟨hs, -, h⟩ <;> rw [h]
  · exact Streaming.waits { hi.streaming hs with } rfl rfl
  · exact hi.openStream hp hn
  · exact inv_endOperation hi.cfgValid hs rfl

theorem Inv.failOperation {s : State} (hi : Inv s) (e : ErrCode) : Inv (failOperation e s) :=
  inv_of_idle hi.cfgValid rfl rfl rfl rfl

theorem Inv.answered {s : State} (hi : Inv s) (t : Txn) (rest : List Txn) (a : Answer) (hp : s.seq.phase = .run)
    (ht : s.seq.todo = t :: rest) : Inv (answered t rest a s) := by
  have hrec : Inv (s.setHistory (s.history ++ [eventOf t a])) := hi.congr rfl rfl rfl rfl
  unfold Machine.answered
  split
  · split
    next hnil =>
      rw [List.isEmpty_iff.mp hnil]
      exact hrec.drained hp
    next hne =>
      have hsuf : rest <:+ s.seq.todo := ht ▸ List.suffix_cons t rest
      exact hrec.owes rest s.seq.columns hp (by simpa using hne) (DataSized.subset hi.dataSizes hsuf.subset)
        fun hop => hsuf.trans (hi.glyphOwed hp hop)
  · exact hrec.failOperation _

/-! ### The font port and the moves of the outside world (R312, R80) -/

/-- A running DRAW_GLYPH whose columns change owes the end of the new columns' list. -/
theorem Inv.redrawGlyph {s : State} (hi : Inv s) (cols : List Byte) (hp : s.seq.phase = .run) (hop : s.seq.op = 0x26) :
    Inv (endIfDrained (s.setSeq (redrawGlyph s.cfg cols s.seq))) := by
  have hs : s.seq.stream = .none := by
    by_contra hs
    exact (hi.streaming hs).op_ne_glyph hop
  have hsuf : (Machine.redrawGlyph s.cfg cols s.seq).todo <:+ glyphTxns s.cfg s.seq.args cols := List.drop_suffix _ _
  unfold endIfDrained
  split
  next hnil => exact inv_endOperation hi.cfgValid hs (List.isEmpty_iff.mp hnil)
  next hne =>
    exact hi.owes _ cols hp (fun h => hne (List.isEmpty_iff.mpr h))
      (DataSized.subset (dataSized_plotAll _ hi.batch_pos) hsuf.subset) fun _ => hsuf

theorem Inv.changeFont {s : State} (hi : Inv s) (table : List Glyph) (takeNew : List Bool) :
    Inv (changeFont table takeNew s) := by
  rcases changeFont_cases table takeNew s with ⟨-, h⟩ | ⟨hp, hop, h⟩ <;> rw [h]
  · exact hi.setFont table
  · exact (hi.setFont table).redrawGlyph _ hp hop

theorem Inv.exec {s t : State} (hi : Inv s) (i : Instr) (h : exec i s = .next t) : Inv t := by
  by_cases hne : i = .endStream
  · subst hne
    cases h
    exact hi.takeEndStream
  · obtain ⟨o, ho, hsound⟩ := exec_is_sound_start i s hi.batch_pos hne
    cases ho.symm.trans h
    exact hi.start hsound

theorem Inv.presentCommand {s t : State} (hi : Inv s) (w : Word) (h : presentCommand w s = .next t) : Inv t := by
  unfold Machine.presentCommand at h
  split at h
  · exact hi.exec _ h
  · cases h
    exact hi.startIllegal

theorem writeStatus_eq (s : State) (v : Word) : s.writeStatus v = s.setOvr (if v.getLsbD 3 then false else s.ovr) := by
  unfold State.writeStatus
  split <;> rfl

theorem writeOffset_eq (s : State) (v : Word) :
    writeOffset s v = s.setOffset (if s.cfg.offsetWritable then v else s.offset) := by
  unfold writeOffset
  split <;> rfl

/-- Everything a register write can do (R41 to R55): CMD presents a command word, DATA a datum; every other offset
changes argument registers and the overrun flag at most. -/
theorem writeReg_cases (s : State) (off : Nat) (v : Word) :
    writeReg s off v = presentCommand v s ∨ writeReg s off v = .next (takeDatum v s) ∨
    ∃ arg0 arg1 arg2 color offset ovr, writeReg s off v =
      .next { s with arg0 := arg0, arg1 := arg1, arg2 := arg2, color := color, offset := offset, ovr := ovr } := by
  by_cases hcmd : off = offCmd
  · exact .inl (if_pos hcmd)
  by_cases hdata : off = offData
  · exact .inr (.inl (by rw [hdata]; rfl))
  refine .inr (.inr ?_)
  rw [writeReg, if_neg hcmd, if_neg hdata, writeStatus_eq, writeOffset_eq]
  repeat' split
  all_goals exact ⟨_, _, _, _, _, _, rfl⟩

theorem Inv.writeReg {s t : State} (hi : Inv s) (off : Nat) (v : Word) (h : writeReg s off v = .next t) : Inv t := by
  rcases writeReg_cases s off v with hw | hw | ⟨_, _, _, _, _, _, hw⟩ <;> rw [hw] at h
  · exact hi.presentCommand v h
  · cases h
    exact hi.takeDatum v
  · cases h
    exact hi.congr rfl rfl rfl rfl

theorem Inv.sequencerStep {s t : State} (hi : Inv s) (a : Answer) (h : sequencerStep a s = .next t) : Inv t := by
  unfold Machine.sequencerStep at h
  split at h
  next hp =>
    split at h
    next hnil => exact absurd hnil (hi.running hp)
    next x rest htodo =>
      split at h
      · cases h
        exact hi.answered x rest a hp htodo
      · cases h
  next => cases h; exact hi

theorem Inv.quietStep {s t : State} (hi : Inv s) (h : quietStep s = .next t) : Inv t := by
  unfold Machine.quietStep at h
  split at h
  next hp =>
    split at h
    next hnil => exact absurd hnil (hi.running hp)
    next => cases h
  next => cases h; exact hi

theorem inv_resetWith (c : Config) (h : c.valid = true) : Inv (State.resetWith c) := inv_of_idle h rfl rfl rfl rfl

theorem Inv.takeInput {s t : State} (hi : Inv s) (i : Input) (h : takeInput i s = .next t) : Inv t := by
  cases i with
  | hostRead width off =>
    simp only [Machine.takeInput, hostRead] at h
    split at h <;> cases h
    exact hi.congr rfl rfl rfl rfl
  | hostWrite width off v =>
    simp only [Machine.takeInput, hostWrite] at h
    split at h
    · cases h
    · exact hi.writeReg off v h
  | otherMaster => cases h
  | answer a => exact hi.sequencerStep a h
  | lateAnswer a => cases h; exact hi
  | fontChange table takeNew => cases h; exact hi.changeFont table takeNew
  | blockReset delivered modes => cases h; exact (inv_resetWith s.cfg hi.cfgValid).congr rfl rfl rfl rfl

/-- Settles O33: the step consumes one move, and every move keeps the invariant. -/
theorem everyStepKeepsTheInvariant : Obligations.EveryStepKeepsTheInvariant := by
  intro s t hi h
  cases hin : s.inputs with
  | nil => exact hi.quietStep (step_nil s hin ▸ h)
  | cons i rest =>
    have hrest : Inv (s.setInputs rest) := hi.congr rfl rfl rfl rfl
    exact hrest.takeInput i (step_cons s i rest hin ▸ h)

/-- Settles O34: after reset the sequencer is idle and empty. -/
theorem invariantHoldsAtReset : Obligations.InvariantHoldsAtReset :=
  ⟨inv_resetWith _ (by decide), inv_resetWith⟩

end Sys2Proof.Machine
end

section
/-! PROOFS. What one step can do, by the move it consumes; the decoded command runs (O5); no host access changes a running operation (O37). -/

namespace Sys2Proof.Machine

/-! ### Host accesses -/

theorem accessRefusal_aligned {off : Nat} (halign : off % 4 = 0) (hoff : off < 64) : accessRefusal 4 off = none := by
  simp [accessRefusal, halign, hoff]

/-- An access inside the window has a 32-bit width. -/
theorem width_of_accessRefusal {width off : Nat} (h : accessRefusal width off = none) : width = 4 := by
  unfold accessRefusal at h
  split_ifs at h with hword
  exact hword.1

/-- A defined read adds its value to the host's record and does nothing else (R80, R82). -/
theorem step_hostRead (s : State) {off : Nat} {rest : List Input} (halign : off % 4 = 0) (hoff : off < 64)
    (hin : s.inputs = .hostRead 4 off :: rest) :
    step s = .next { s with inputs := rest, reads := s.reads ++ [(off, readReg s off)] } := by
  rw [step_cons s _ _ hin]
  simp only [takeInput, hostRead, accessRefusal_aligned halign hoff]
  rfl

/-- A defined write reaches its register (R80, R82). -/
theorem step_hostWrite (s : State) {off : Nat} {v : Word} {rest : List Input} (halign : off % 4 = 0) (hoff : off < 64)
    (hin : s.inputs = .hostWrite 4 off v :: rest) : step s = writeReg (s.setInputs rest) off v := by
  rw [step_cons s _ _ hin]
  simp only [takeInput, hostWrite, accessRefusal_aligned halign hoff]

theorem presentCommand_of_decode {w : Word} {i : Instr} (h : decode w = some i) (s : State) :
    presentCommand w s = exec i s := by
  simp [presentCommand, h]

/-- Settles O5: the write presents the word, and the decoder names its instruction. -/
theorem stepRunsTheDecodedCommand : Obligations.StepRunsTheDecodedCommand := by
  intro s w i rest hin hdec
  exact (step_command s w rest hin).trans (presentCommand_of_decode hdec _)

/-! ### The step, by what it did -/

/-- What a step from `s` to `t` was, on the state without the move it consumed. -/
inductive StepMove (s t : State) : Prop
  /-- The block waits for the host (R302), or a late or unasked answer is ignored (R300). -/
  | ignored (ht : t = s.setInputs s.inputs.tail)
  | read (reads : List (Nat × Word)) (ht : t = (s.setInputs s.inputs.tail).setReads reads)
  | command (w : Word) (hin : s.inputs.head? = some (.hostWrite 4 0x00 w))
      (ht : presentCommand w (s.setInputs s.inputs.tail) = .next t)
  | datum (w : Word) (ht : t = takeDatum w (s.setInputs s.inputs.tail))
  /-- A write of STATUS, an argument register, OFFSET or an offset that ignores it. -/
  | registers (arg0 arg1 arg2 color offset : Word) (ovr : Bool)
      (ht : t = { s.setInputs s.inputs.tail with
        arg0 := arg0, arg1 := arg1, arg2 := arg2, color := color, offset := offset, ovr := ovr })
  /-- The sequencer goes on with nothing outstanding (log 14). -/
  | drains (hin : s.inputs.head? = none ∨ ∃ a, s.inputs.head? = some (.answer a)) (hrun : s.seq.phase = .run)
      (hnil : s.seq.todo = []) (ht : t = drained (s.setInputs s.inputs.tail))
  | answers (x : Txn) (more : List Txn) (a : Answer) (hin : s.inputs.head? = some (.answer a)) (hrun : s.seq.phase = .run)
      (htodo : s.seq.todo = x :: more) (ht : t = answered x more a (s.setInputs s.inputs.tail))
  | font (table : List Glyph) (takeNew : List Bool) (hin : s.inputs.head? = some (.fontChange table takeNew))
      (ht : t = changeFont table takeNew (s.setInputs s.inputs.tail))
  | reset (delivered : Nat) (modes : List WireMode) (hin : s.inputs.head? = some (.blockReset delivered modes))
      (ht : t = blockReset delivered modes (s.setInputs s.inputs.tail))

theorem setInputs_self (s : State) : s.setInputs s.inputs = s := rfl

/-- A write anywhere but CMD takes a datum, or changes argument registers and the overrun flag at most. -/
theorem writeReg_of_ne_cmd (s : State) {off : Nat} (v : Word) (hoff : off ≠ offCmd) :
    writeReg s off v = .next (takeDatum v s) ∨ ∃ arg0 arg1 arg2 color offset ovr, writeReg s off v =
      .next { s with arg0 := arg0, arg1 := arg1, arg2 := arg2, color := color, offset := offset, ovr := ovr } := by
  by_cases hdata : off = offData
  · exact .inl (by rw [hdata]; rfl)
  refine .inr ?_
  rw [writeReg, if_neg hoff, if_neg hdata, writeStatus_eq, writeOffset_eq]
  repeat' split
  all_goals exact ⟨_, _, _, _, _, _, rfl⟩

theorem stepMove_of_quietStep {s t : State} (hin : s.inputs = []) (h : quietStep s = .next t) : StepMove s t := by
  have hs : s.setInputs s.inputs.tail = s := by rw [hin, List.tail_nil, ← hin, setInputs_self]
  unfold quietStep at h
  split at h
  next hrun =>
    split at h
    next hnil => cases h; exact .drains (.inl (by simp [hin])) hrun hnil (by rw [hs])
    next => cases h
  next => cases h; exact .ignored hs.symm

section
variable {s t : State} {rest : List Input}

theorem stepMove_of_hostWrite {width off : Nat} {v : Word} (hin : s.inputs = .hostWrite width off v :: rest)
    (h : hostWrite width off v (s.setInputs s.inputs.tail) = .next t) : StepMove s t := by
  unfold hostWrite at h
  split at h
  · cases h
  next hok =>
    obtain rfl := width_of_accessRefusal hok
    by_cases hcmd : off = offCmd
    · subst hcmd
      exact .command v (by rw [hin]; rfl) h
    · rcases writeReg_of_ne_cmd (s.setInputs s.inputs.tail) v hcmd with hw | ⟨_, _, _, _, _, _, hw⟩ <;> rw [hw] at h <;>
        cases h
      · exact .datum v rfl
      · exact .registers _ _ _ _ _ _ rfl

theorem stepMove_of_answer {a : Answer} (hin : s.inputs = .answer a :: rest)
    (h : sequencerStep a (s.setInputs s.inputs.tail) = .next t) : StepMove s t := by
  have hhead : s.inputs.head? = some (.answer a) := by rw [hin]; rfl
  unfold sequencerStep at h
  split at h
  next hrun =>
    split at h
    next hnil => cases h; exact .drains (.inr ⟨a, hhead⟩) hrun hnil rfl
    next x more htodo =>
      split at h <;> cases h
      exact .answers x more a hhead hrun htodo rfl
  next => cases h; exact .ignored rfl

end

/-- Everything a step that answers a next state can have been. -/
theorem stepMove_of_step {s t : State} (h : step s = .next t) : StepMove s t := by
  cases hin : s.inputs with
  | nil => exact stepMove_of_quietStep hin (step_nil s hin ▸ h)
  | cons i rest =>
    have hhead : s.inputs.head? = some i := by rw [hin]; rfl
    obtain rfl : s.inputs.tail = rest := by rw [hin]; rfl
    rw [step_cons s i _ hin] at h
    cases i with
    | hostRead width off =>
      simp only [takeInput, hostRead] at h
      split at h <;> cases h
      exact .read _ rfl
    | hostWrite width off v => exact stepMove_of_hostWrite hin h
    | otherMaster => cases h
    | answer a => exact stepMove_of_answer hin h
    | lateAnswer a => cases h; exact .ignored rfl
    | fontChange table takeNew => cases h; exact .font table takeNew hhead rfl
    | blockReset delivered modes => cases h; exact .reset delivered modes hhead rfl

/-! ### A running operation and the host (R51, R274) -/

theorem takeDatum_busy (w : Word) (s : State) (h : s.seq.phase = .run) : takeDatum w s = drop s := if_pos (.inl h)

theorem takeEndStream_busy (s : State) (h : s.seq.phase = .run) : takeEndStream s = drop s := if_pos h

theorem exec_busy (i : Instr) (s : State) (h : s.seq.phase = .run) : exec i s = .next (drop s) := by
  by_cases hi : i = .endStream
  · rw [hi, ← takeEndStream_busy s h]
    rfl
  · obtain ⟨o, ho, -⟩ := exec_is_start i s hi
    rw [ho, start_busy o s h]

theorem presentCommand_busy (w : Word) (s : State) (h : s.seq.phase = .run) : presentCommand w s = .next (drop s) := by
  unfold presentCommand
  split
  · exact exec_busy _ s h
  · exact congrArg _ (if_pos h)

/-- Settles O37: a command word and a datum are dropped, the other accesses do not touch the sequencer, and a late
answer is ignored; the moves of the sequencer, the font port and the platform are none of these. -/
theorem hostAccessLeavesARunningOperationAlone : Obligations.HostAccessLeavesARunningOperationAlone := by
  intro s t i rest hrun hin hi hstep
  have hhead : s.inputs.head? = some i := by rw [hin]; rfl
  have hother : (∀ a, i ≠ .answer a) ∧ (∀ table takeNew, i ≠ .fontChange table takeNew) ∧ ∀ n modes, i ≠ .blockReset n modes := by
    rcases hi with ⟨_, _, rfl⟩ | ⟨_, _, _, rfl⟩ | ⟨_, rfl⟩ <;> exact ⟨nofun, nofun, nofun⟩
  obtain ⟨hanswer, hfont, hreset⟩ := hother
  cases stepMove_of_step hstep with
  | ignored ht => subst ht; exact ⟨rfl, rfl, rfl, rfl, rfl⟩
  | read reads ht => subst ht; exact ⟨rfl, rfl, rfl, rfl, rfl⟩
  | command w _ ht =>
    cases (presentCommand_busy w (s.setInputs s.inputs.tail) hrun).symm.trans ht
    exact ⟨rfl, rfl, rfl, rfl, rfl⟩
  | datum w ht =>
    cases ht.trans (takeDatum_busy w (s.setInputs s.inputs.tail) hrun)
    exact ⟨rfl, rfl, rfl, rfl, rfl⟩
  | registers arg0 arg1 arg2 color offset ovr ht => subst ht; exact ⟨rfl, rfl, rfl, rfl, rfl⟩
  | drains hq =>
    rcases hq with hq | ⟨a, hq⟩
    · simp [hin] at hq
    · exact absurd (Option.some.inj (hhead.symm.trans hq)) (hanswer a)
  | answers x more a hq => exact absurd (Option.some.inj (hhead.symm.trans hq)) (hanswer a)
  | font table takeNew hq => exact absurd (Option.some.inj (hhead.symm.trans hq)) (hfont table takeNew)
  | reset n modes hq => exact absurd (Option.some.inj (hhead.symm.trans hq)) (hreset n modes)

end Sys2Proof.Machine
end

section
/-! PROOFS. The register window: what each read returns and each write stores (O39, O41 to O43). -/

namespace Sys2Proof.Machine

/-! ### STATUS (R48) -/

section
variable (s : State)

theorem status_busy : s.status.getLsbD 0 = decide (s.seq.phase = .run) := by
  rw [State.status, BitVec.getLsbD_append]
  simp [State.busy, beq_eq_decide]

theorem status_ready : s.status.getLsbD 1 = decide (s.session = .ready) := by
  rw [State.status, BitVec.getLsbD_append, BitVec.getLsbD_append]
  simp [State.isReady, beq_eq_decide]

theorem status_stream : s.status.getLsbD 2 = decide (s.seq.stream ≠ .none) := by
  rw [State.status, BitVec.getLsbD_append, BitVec.getLsbD_append, BitVec.getLsbD_append]
  simp [State.streaming, bne, beq_eq_decide]

theorem status_ovr : s.status.getLsbD 3 = s.ovr := by
  rw [State.status, BitVec.getLsbD_append, BitVec.getLsbD_append, BitVec.getLsbD_append, BitVec.getLsbD_append]
  simp

/-- The four flags below, STATUS is the error code with zeros around it. -/
theorem status_above_flags (start len : Nat) (h : 4 ≤ start) : s.status.extractLsb' start len =
    ((0 : BitVec 20) ++ s.err.code ++ (0 : BitVec 4)).extractLsb' (start - 4) len := by
  rw [State.status, BitVec.extractLsb'_append_eq_of_le (by omega), BitVec.extractLsb'_append_eq_of_le (by omega),
    BitVec.extractLsb'_append_eq_of_le (by omega), BitVec.extractLsb'_append_eq_of_le (by omega)]
  rfl

theorem status_low_zeros : s.status.extractLsb' 4 4 = 0 := by
  rw [status_above_flags s _ _ (by decide)]
  exact BitVec.extractLsb'_append_eq_right

theorem status_err : s.status.extractLsb' 8 4 = s.err.code := by
  rw [status_above_flags s _ _ (by decide), BitVec.extractLsb'_append_eq_of_le (by decide)]
  exact BitVec.extractLsb'_append_eq_right

theorem status_high_zeros : s.status.extractLsb' 12 20 = 0 := by
  rw [status_above_flags s _ _ (by decide), BitVec.extractLsb'_append_eq_of_le (by decide)]
  exact BitVec.extractLsb'_append_eq_left

end

/-- STATUS reads 0 of an idle block in UNINIT with nothing to report. -/
theorem status_eq_zero {s : State} (hp : s.seq.phase = .idle) (hu : s.session = .uninit) (hs : s.seq.stream = .none)
    (ho : s.ovr = false) (he : s.err = .none) : s.status = 0 := by
  simp [State.status, State.busy, State.isReady, State.streaming, ErrCode.code, hp, hu, hs, ho, he, beq_eq_decide]

/-- STATUS is 0 after reset (R60). -/
theorem resetWith_status (c : Config) : (State.resetWith c).status = 0 := status_eq_zero rfl rfl rfl rfl rfl

/-! ### GEOM and ORIENT (R53, R54) -/

section
variable (s : State)

theorem geomWord_width : s.geomWord.extractLsb' 0 16 = s.cfg.width := BitVec.extractLsb'_append_eq_right

theorem geomWord_height : s.geomWord.extractLsb' 16 16 = s.cfg.height := BitVec.extractLsb'_append_eq_left

theorem orientWord_code : s.orientWord.extractLsb' 0 2 = s.orient := BitVec.extractLsb'_append_eq_right

theorem orientWord_low_zeros : s.orientWord.extractLsb' 2 6 = 0 := by
  rw [State.orientWord, BitVec.extractLsb'_append_eq_of_le (by decide)]
  exact BitVec.extractLsb'_append_eq_right

theorem orientWord_modeByte : s.orientWord.extractLsb' 8 8 = orientByte s.cfg s.orient := by
  rw [State.orientWord, BitVec.extractLsb'_append_eq_of_le (by decide), BitVec.extractLsb'_append_eq_of_le (by decide)]
  exact BitVec.extractLsb'_append_eq_right

theorem orientWord_high_zeros : s.orientWord.extractLsb' 16 16 = 0 := by
  rw [State.orientWord, BitVec.extractLsb'_append_eq_of_le (by decide), BitVec.extractLsb'_append_eq_of_le (by decide)]
  exact BitVec.extractLsb'_append_eq_left

/-- CMD, DATA and the reserved offsets hold no value (R42, R55, R80). -/
theorem readReg_of_no_value {off : Nat} (h : off = 0x00 ∨ off = 0x24 ∨ 0x28 ≤ off) : readReg s off = 0 := by
  rcases h with rfl | rfl | h
  · rfl
  · rfl
  · unfold readReg offStatus offArg0 offArg1 offArg2 offColor offOffset offGeom offOrient
    iterate 8 rw [if_neg (by omega)]

/-- GEOM, ORIENT and the reserved offsets ignore a write (R53, R54, R80). -/
theorem writeReg_of_read_only {off : Nat} (v : Word) (h : off = 0x1C ∨ off = 0x20 ∨ 0x28 ≤ off) : writeReg s off v = .next s := by
  rcases h with rfl | rfl | h
  · rfl
  · rfl
  · unfold writeReg offCmd offStatus offArg0 offArg1 offArg2 offColor offOffset offData
    iterate 8 rw [if_neg (by omega)]

end

/-! ### The obligations -/

/-- Settles O39: the two flags leave a phase without a transaction and no open stream, and the invariant says the rest. -/
theorem quietStatusMeansEverythingSent : Obligations.QuietStatusMeansEverythingSent := by
  intro s hi hbusy hstream
  have hread : readReg s 0x04 = s.status := rfl
  rw [hread, status_busy, decide_eq_false_iff_not] at hbusy
  rw [hread, status_stream, decide_eq_false_iff_not, not_not] at hstream
  obtain ⟨hidle, htodo⟩ := hi.idle_of_accepting hbusy hstream
  exact ⟨hidle, htodo, hi.closedBuf hstream⟩

/-- Settles O41: each field of the concatenation, then a read of it and a write of it. -/
theorem statusRegister : Obligations.StatusRegister := by
  refine ⟨⟨rfl, rfl, rfl, rfl, rfl, rfl, rfl, rfl⟩, resetWith_status, fun s => ?_⟩
  refine ⟨status_busy s, status_ready s, status_stream s, status_ovr s, status_low_zeros s, status_err s, status_high_zeros s,
    fun rest hin => ?_, fun w rest hin => ?_⟩
  · exact step_hostRead s (by decide) (by decide) hin
  · rw [step_hostWrite s (by decide) (by decide) hin]
    exact congrArg Host.Outcome.next (writeStatus_eq _ w)

/-- Settles O42: a defined read is recorded with its value, and each register's value is its field or its computed word. -/
theorem readsHaveNoSideEffect : Obligations.ReadsHaveNoSideEffect := by
  intro s off rest halign hoff hin
  refine ⟨readReg s off, step_hostRead s halign hoff hin, readReg_of_no_value s, ?_, ?_, ?_, ?_, ?_, ?_, ?_, ?_⟩ <;> rintro rfl
  iterate 6
    · rfl
  · exact ⟨geomWord_width s, geomWord_height s⟩
  · have hmode : (readReg s 0x20).extractLsb' 8 8 = orientByte s.cfg s.orient := orientWord_modeByte s
    refine ⟨orientWord_code s, orientWord_low_zeros s, orientWord_high_zeros s, ?_, ?_, ?_, ?_⟩ <;> intro ho <;> rw [hmode, ho] <;> rfl

/-- Settles O43: the write reaches its register, which stores the word or ignores it. -/
theorem registerWrites : Obligations.RegisterWrites := by
  intro s off v rest hin
  refine ⟨?_, ?_, ?_, ?_, ?_, fun halign hoff hro => ?_⟩
  iterate 4
    · rintro rfl
      exact step_hostWrite s (by decide) (by decide) hin
  · rintro rfl
    rw [step_hostWrite s (by decide) (by decide) hin]
    exact congrArg Host.Outcome.next (writeOffset_eq _ v)
  · rw [step_hostWrite s halign hoff hin]
    exact writeReg_of_read_only _ v hro

end Sys2Proof.Machine
end

section
/-! PROOFS. What the step leaves alone: the parameters, the event history and the record of abandoned transactions (O36). -/

namespace Sys2Proof.Machine

/-- The parameters, the event history and the record of abandoned transactions are the same. -/
structure SameRecords (s t : State) : Prop where
  cfg : t.cfg = s.cfg
  history : t.history = s.history
  abandoned : t.abandoned = s.abandoned

theorem SameRecords.trans {s t u : State} (h : SameRecords s t) (k : SameRecords t u) : SameRecords s u :=
  ⟨k.cfg.trans h.cfg, k.history.trans h.history, k.abandoned.trans h.abandoned⟩

section
variable (s : State)

theorem sameRecords_refl : SameRecords s s := ⟨rfl, rfl, rfl⟩

theorem sameRecords_setSeq (q : Seq) : SameRecords s (s.setSeq q) := ⟨rfl, rfl, rfl⟩

theorem sameRecords_drop : SameRecords s (drop s) := ⟨rfl, rfl, rfl⟩

theorem sameRecords_reject (e : ErrCode) : SameRecords s (reject e s) := ⟨rfl, rfl, rfl⟩

theorem sameRecords_accept (o : Operation) : SameRecords s (accept o s) := ⟨rfl, rfl, rfl⟩

theorem sameRecords_endOperation : SameRecords s (endOperation s) := by
  rw [endOperation_eq]
  exact ⟨rfl, rfl, rfl⟩

theorem sameRecords_endIfDrained : SameRecords s (endIfDrained s) := by
  unfold endIfDrained
  split
  · exact sameRecords_endOperation s
  · exact sameRecords_refl s

theorem sameRecords_start (o : Operation) : SameRecords s (start o s) := by
  rcases start_cases o s with ⟨-, h⟩ | ⟨-, -, ⟨e, -, h⟩ | ⟨-, -, -, ⟨-, h⟩ | ⟨-, h⟩⟩⟩ <;> rw [h]
  · exact sameRecords_drop s
  · exact sameRecords_reject s e
  · exact (sameRecords_accept s o).trans (sameRecords_endOperation _)
  · exact sameRecords_accept s o

theorem sameRecords_startIllegal : SameRecords s (startIllegal s) := by
  unfold startIllegal
  split_ifs
  · exact sameRecords_drop s
  · exact sameRecords_drop s
  · exact sameRecords_reject s _

theorem sameRecords_takeEndStream : SameRecords s (takeEndStream s) := by
  rcases takeEndStream_cases s with ⟨-, h⟩ | ⟨-, -, h⟩ <;> rw [h]
  · exact sameRecords_drop s
  · exact (sameRecords_setSeq s _).trans (sameRecords_endIfDrained _)

theorem sameRecords_takeDatum (w : Word) : SameRecords s (takeDatum w s) := by
  rcases takeDatum_cases w s with ⟨-, h⟩ | ⟨-, -, ⟨-, -, h⟩ | ⟨-, ⟨-, h⟩ | ⟨-, h⟩⟩⟩ <;> rw [h]
  · exact sameRecords_drop s
  · exact (sameRecords_setSeq s _).trans (sameRecords_endIfDrained _)
  · exact sameRecords_setSeq s _
  · exact sameRecords_setSeq s _

theorem sameRecords_drained : SameRecords s (drained s) := by
  rcases drained_cases s with ⟨-, h⟩ | ⟨-, -, h⟩ | ⟨-, -, h⟩ <;> rw [h]
  · exact sameRecords_setSeq s _
  · exact sameRecords_setSeq s _
  · exact sameRecords_endOperation s

/-- An answered transaction is recorded, and nothing else of the records changes (R86). -/
theorem sameRecords_answered (x : Txn) (more : List Txn) (a : Answer) :
    SameRecords (s.setHistory (s.history ++ [eventOf x a])) (answered x more a s) := by
  unfold answered
  split_ifs
  · exact (sameRecords_setSeq _ _).trans (sameRecords_drained _)
  · exact sameRecords_setSeq _ _
  · exact ⟨rfl, rfl, rfl⟩

/-- A change of the font table changes the table of the parameters (R312). -/
theorem sameRecords_changeFont (table : List Glyph) (takeNew : List Bool) :
    SameRecords (s.setCfg { s.cfg with font := table }) (changeFont table takeNew s) := by
  rcases changeFont_cases table takeNew s with ⟨-, h⟩ | ⟨-, -, h⟩ <;> rw [h]
  · exact sameRecords_refl _
  · exact (sameRecords_setSeq _ _).trans (sameRecords_endIfDrained _)

end

theorem sameRecords_of_exec {s t : State} {i : Instr} (h : exec i s = .next t) : SameRecords s t := by
  by_cases hi : i = .endStream
  · subst hi
    cases h
    exact sameRecords_takeEndStream s
  · obtain ⟨o, ho, -⟩ := exec_is_start i s hi
    cases ho.symm.trans h
    exact sameRecords_start s o

theorem sameRecords_of_presentCommand {s t : State} {w : Word} (h : presentCommand w s = .next t) : SameRecords s t := by
  unfold presentCommand at h
  split at h
  · exact sameRecords_of_exec h
  · cases h
    exact sameRecords_startIllegal s

/-- Settles O36: only the answered transaction, the font table and block reset touch the records. -/
theorem parametersStayAndHistoryGrowsByOne : Obligations.ParametersStayAndHistoryGrowsByOne := by
  intro s t hstep
  have hsame : SameRecords (s.setInputs s.inputs.tail) t →
      (t.cfg = s.cfg ∨ ∃ table takeNew, s.inputs.head? = some (.fontChange table takeNew) ∧ t.cfg = { s.cfg with font := table }) ∧
      ((∀ d m, s.inputs.head? ≠ some (.blockReset d m)) → t.abandoned = s.abandoned ∧
        (t.history = s.history ∨ ∃ e, s.seq.phase = .run ∧ s.seq.todo.head? = some e.txn ∧ t.history = s.history ++ [e])) :=
    fun h => ⟨.inl h.cfg, fun _ => ⟨h.abandoned, .inl h.history⟩⟩
  cases stepMove_of_step hstep with
  | ignored ht => subst ht; exact hsame ⟨rfl, rfl, rfl⟩
  | read reads ht => subst ht; exact hsame ⟨rfl, rfl, rfl⟩
  | command w _ ht => exact hsame (sameRecords_of_presentCommand ht)
  | datum w ht => subst ht; exact hsame (sameRecords_takeDatum _ w)
  | registers arg0 arg1 arg2 color offset ovr ht => subst ht; exact hsame ⟨rfl, rfl, rfl⟩
  | drains _ _ _ ht => subst ht; exact hsame (sameRecords_drained _)
  | answers x more a _ hrun htodo ht =>
    subst ht
    have h := sameRecords_answered (s.setInputs s.inputs.tail) x more a
    exact ⟨.inl h.cfg, fun _ => ⟨h.abandoned, .inr ⟨eventOf x a, hrun, by rw [htodo]; rfl, h.history⟩⟩⟩
  | font table takeNew hin ht =>
    subst ht
    have h := sameRecords_changeFont (s.setInputs s.inputs.tail) table takeNew
    exact ⟨.inr ⟨table, takeNew, hin, h.cfg⟩, fun _ => ⟨h.abandoned, .inl h.history⟩⟩
  | reset n modes hin ht => subst ht; exact ⟨.inl rfl, fun hno => absurd hin (hno n modes)⟩

end Sys2Proof.Machine
end

section
/-! PROOFS. The logical byte stream, what is on the wire followed by what is owed and buffered: a datum extends it and an OK
answer keeps it (O29, O30); END_STREAM's end (O17). -/

namespace Sys2Proof.Machine

/-! ### What is owed and buffered (R96) -/

theorem wire_congr {s t : State} (h : t.history = s.history) : t.wire = s.wire := congrArg wireOf h

theorem owedPairs_congr {s t : State} (htodo : t.seq.todo = s.seq.todo) (hbuf : t.seq.buf = s.seq.buf) :
    t.owedPairs = s.owedPairs := by
  rw [State.owedPairs, State.owedPairs, htodo, hbuf]

/-- The end of an operation only empties the buffer. -/
theorem endOperation_owedPairs {s : State} (hbuf : s.seq.buf = []) : (endOperation s).owedPairs = s.owedPairs := by
  rw [endOperation_eq]
  exact owedPairs_congr rfl hbuf.symm

theorem endIfDrained_owedPairs {s : State} (hbuf : s.seq.buf = []) : (endIfDrained s).owedPairs = s.owedPairs := by
  unfold endIfDrained
  split
  · exact endOperation_owedPairs hbuf
  · rfl

/-- A datum that is taken is owed last, whether it stays buffered, fills chunks or closes its stream (R186, R196). -/
theorem takeDatum_owedPairs (w : Word) (s : State) (hp : s.seq.phase ≠ .run) (hs : s.seq.stream ≠ .none) :
    (takeDatum w s).owedPairs = s.owedPairs ++ (datumBytes s.cfg s.seq.stream w).map fun b => ⟨.data, b⟩ := by
  have hbuffered : (s.setSeq (bufferDatum s.cfg s.seq w)).owedPairs =
      s.owedPairs ++ (datumBytes s.cfg s.seq.stream w).map fun b => ⟨.data, b⟩ := bufferDatum_owed s.cfg s.seq w
  rw [← hbuffered]
  rcases takeDatum_cases w s with ⟨hdrop, -⟩ | ⟨-, -, ⟨-, -, h⟩ | ⟨-, ⟨-, h⟩ | ⟨-, h⟩⟩⟩
  · exact absurd hdrop (by simp [hp, hs])
  · rw [h, endIfDrained_owedPairs rfl]
    exact closeStream_owed (bufferDatum s.cfg s.seq w)
  · rw [h]
  · rw [h]
    exact owedPairs_congr rfl rfl

/-- Settles O29: the datum is taken, nothing goes on the wire, and its bytes are owed last. -/
theorem datumFollowsEverythingOwed : Obligations.DatumFollowsEverythingOwed := by
  intro s w rest hp hs hin
  refine ⟨_, step_datum s w rest hin, ?_⟩
  have hwire : (takeDatum w (s.setInputs rest)).wire = s.wire := wire_congr (sameRecords_takeDatum (s.setInputs rest) w).history
  have howed : (takeDatum w (s.setInputs rest)).owedPairs =
      s.owedPairs ++ (datumBytes s.cfg s.seq.stream w).map fun b => ⟨.data, b⟩ := takeDatum_owedPairs w (s.setInputs rest) hp hs
  rw [hwire, howed, ← List.append_assoc]
  exact ⟨fun hk => by rw [hk]; rfl, fun hk => by rw [hk]; rfl⟩

/-- Opening a stream empties at most the buffer (R158, R191, R193). -/
theorem openStream_todo (q : Seq) : (openStream q).todo = q.todo := by
  unfold openStream
  split
  · rfl
  · split <;> rfl

theorem openStream_buf {q : Seq} (h : q.buf = []) : (openStream q).buf = [] := by
  unfold openStream
  split
  · rfl
  · split
    · rfl
    · exact h

/-- With nothing outstanding the sequencer goes on without a byte, if only an open stream has bytes buffered. -/
theorem drained_owedPairs {s : State} (hbuf : s.seq.stream = .none → s.seq.buf = []) :
    (drained s).owedPairs = s.owedPairs := by
  rcases drained_cases s with ⟨-, h⟩ | ⟨hs, -, h⟩ | ⟨hs, -, h⟩ <;> rw [h]
  · exact owedPairs_congr rfl rfl
  · exact owedPairs_congr (openStream_todo _) ((openStream_buf (hbuf hs)).trans (hbuf hs).symm)
  · exact endOperation_owedPairs (hbuf hs)

/-- The pairs an OK answer puts on the wire are those of the transaction owed first (R86). -/
theorem answered_ok_stream {s : State} {x : Txn} {more : List Txn} {a : Answer} (htodo : s.seq.todo = x :: more)
    (hok : a.response = .ok) (hbuf : s.seq.stream = .none → s.seq.buf = []) :
    (answered x more a s).wire ++ (answered x more a s).owedPairs = s.wire ++ s.owedPairs := by
  have hmoved : ∀ t : State, t.history = s.history ++ [⟨x, .ok, x.pairs⟩] →
      t.owedPairs = (s.setSeq { s.seq with todo := more }).owedPairs → t.wire ++ t.owedPairs = s.wire ++ s.owedPairs := by
    intro t hhist howed
    rw [howed, State.wire, hhist, wireOf_append]
    simp [State.wire, State.owedPairs, wireOf, htodo]
  rw [answered_ok x more a s hok]
  split
  · exact hmoved _ (drained_history _) (drained_owedPairs hbuf)
  · exact hmoved _ rfl rfl

/-- Settles O30: under the invariant a running operation owes a transaction, and only an open stream has bytes buffered. -/
theorem okAnswerKeepsTheByteStream : Obligations.OkAnswerKeepsTheByteStream := by
  intro s a rest hi hrun hin hok
  obtain ⟨x, more, htodo⟩ := List.exists_cons_of_ne_nil (hi.running hrun)
  have hallowed : responseAllowed s.cfg x a.response = true := by rw [hok, responseAllowed_ok]
  exact ⟨_, step_answer s x more a rest hrun htodo hin hallowed,
    answered_ok_stream (s := s.setInputs rest) htodo hok hi.closedBuf⟩

/-! ### END_STREAM (R195) -/

theorem takeEndStream_open {s : State} (hp : s.seq.phase ≠ .run) (hs : s.seq.stream ≠ .none) :
    takeEndStream s = endIfDrained (s.setSeq (closeStream s.seq)) := by
  simp [takeEndStream, hp, hs]

theorem closeStream_buffered {q : Seq} (htodo : q.todo = []) (hbuf : q.buf ≠ []) :
    closeStream q = { q with stream := .none, todo := [.data q.buf], buf := [], phase := .run } := by
  simp [closeStream, lastChunk, htodo, hbuf]

theorem closeStream_empty {q : Seq} (htodo : q.todo = []) (hbuf : q.buf = []) :
    closeStream q = { q with stream := .none, phase := .run } := by
  simp [closeStream, htodo, hbuf]

/-- An operation without a completion effect ends with its error code alone (R275 case (d)). -/
theorem endOperation_without_completion (s : State) (hinit : s.seq.op ≠ 0x02) (horient : s.seq.op ≠ 0x03) :
    endOperation s = { s with
      err := if s.seq.remaining = 0 then .none else .streamShort
      seq := { s.seq with buf := [], phase := .idle } } := by
  rw [endOperation_eq, if_neg hinit, if_neg (not_or.mpr ⟨hinit, horient⟩)]

/-- Settles O17: with bytes buffered a transaction is owed, so the operation does not end yet; with none it ends at once. -/
theorem endStreamCloses : Obligations.EndStreamCloses := by
  intro s hp hs htodo
  have hexec : exec .endStream s = .next (endIfDrained (s.setSeq (closeStream s.seq))) :=
    congrArg Host.Outcome.next (takeEndStream_open (by simp [hp]) hs)
  refine ⟨fun hbuf => ?_, fun hbuf hinit horient => ?_⟩ <;> rw [hexec]
  · rw [closeStream_buffered htodo hbuf]
    rfl
  · rw [closeStream_empty htodo hbuf, endIfDrained, if_pos (by simp [htodo]), endOperation_without_completion]
    · simp [State.setSeq, hbuf]
    · exact hinit
    · exact horient

end Sys2Proof.Machine
end

section
/-! PROOFS. Block reset: what it leaves and what it abandons (O45). -/

namespace Sys2Proof.Machine

/-! ### The abandoned transaction (R88, R300) -/

theorem abandon_idle (n : Nat) (modes : List WireMode) {s : State} (hp : s.seq.phase ≠ .run) : abandon n modes s = [] := if_neg hp

theorem abandon_running (n : Nat) (modes : List WireMode) {s : State} {x : Txn} {more : List Txn} (hp : s.seq.phase = .run)
    (htodo : s.seq.todo = x :: more) : abandon n modes s = [⟨x, abandonedDelivery s.cfg x n modes⟩] := by
  rw [abandon, if_pos hp, htodo]
  rfl

/-- Drawing a list's own modes over its bytes gives the list. -/
theorem drawModes_of_bytes (l ps : List WirePair) (h : l.map WirePair.byte = ps.map WirePair.byte) :
    drawModes l (ps.map WirePair.mode) = ps := by
  induction l generalizing ps with
  | nil => exact (List.map_eq_nil_iff.mp h.symm).symm
  | cons p l ih =>
    cases ps with
    | nil => simp at h
    | cons q ps =>
      simp only [List.map_cons, List.cons.injEq] at h
      simp only [List.map_cons, drawModes, ih ps h.2, h.1]

theorem map_take_of_map_isPrefix {α β : Type} {f : α → β} {l m : List α} (h : l.map f <+: m.map f) :
    (m.take l.length).map f = l.map f := by
  rw [List.map_take, ← List.length_map f]
  exact (List.prefix_iff_eq_take.mp h).symm

/-- The first of a transaction's pairs, in the SPI variant with any modes, are what some draw delivers (R88). -/
theorem exists_draw {c : Config} {x : Txn} {ps : List WirePair}
    (h : ps <+: x.pairs ∨ (c.transport = .spiDcPin ∧ ps.map WirePair.byte <+: x.pairs.map WirePair.byte)) :
    ∃ modes, abandonedDelivery c x ps.length modes = ps := by
  refine ⟨ps.map WirePair.mode, ?_⟩
  have hbytes : ps.map WirePair.byte <+: x.pairs.map WirePair.byte := h.elim (·.map _) (·.2)
  unfold abandonedDelivery
  cases hc : c.transport with
  | generic => exact (List.prefix_iff_eq_take.mp (h.resolve_right (by simp [hc]))).symm
  | spiDcPin => exact drawModes_of_bytes _ _ (map_take_of_map_isPrefix hbytes)

/-! ### The registers' reset values (R60) -/

theorem toNat_append_halves (x y : Half) : (x ++ y : Word).toNat = x.toNat * 2 ^ 16 + y.toNat := by
  rw [BitVec.toNat_append, ← Nat.shiftLeft_add_eq_or_of_lt y.isLt, Nat.shiftLeft_eq]

theorem resetWith_offset (c : Config) :
    (State.resetWith c).offset.toNat = c.offsetResetY.toNat * 2 ^ 16 + c.offsetResetX.toNat := toNat_append_halves _ _

theorem readReg_geom_toNat (s : State) : (readReg s 0x1C).toNat = s.cfg.height.toNat * 2 ^ 16 + s.cfg.width.toNat :=
  toNat_append_halves _ _

/-- Settles O45: block reset abandons the transaction outstanding, if there is one, and the rest is the reset state. -/
theorem resetValues : Obligations.ResetValues := by
  refine ⟨fun s n modes rest hin => ⟨fun hp => ?_, fun x more hp htodo => ?_⟩, fun s x more ps rest hp htodo hps => ?_,
    fun s a rest hin => step_cons s _ rest hin, ?_⟩
  · rw [step_blockReset s n modes rest hin, abandon_idle n modes hp, List.append_nil]
  · obtain ⟨hbytes, hmodes⟩ := abandonedDelivery_prefix s.cfg x n modes
    refine ⟨_, ?_, hbytes, hmodes⟩
    rw [step_blockReset s n modes rest hin, abandon_running n modes hp htodo]
  · obtain ⟨modes, hdraw⟩ := exists_draw hps
    refine ⟨ps.length, modes, ?_⟩
    rw [step_blockReset _ ps.length modes rest rfl,
      abandon_running (s := { s with inputs := .blockReset ps.length modes :: rest }) _ _ hp htodo, hdraw]
  · rintro c _ rfl
    exact ⟨rfl, rfl, rfl, rfl, rfl, resetWith_offset c, rfl, rfl, rfl, rfl, resetWith_status c, rfl, rfl, rfl, rfl, rfl, rfl, rfl,
      rfl, rfl, rfl, readReg_geom_toNat _⟩

end Sys2Proof.Machine
end

section
/-! PROOFS. What changes the session and the orientation code (O35). -/

namespace Sys2Proof.Machine

/-! ### The word a decoded instruction came from (R120, R123) -/

/-- The instruction, if there is one, has this OP field. -/
def HasOp (op : Byte) (r : Option Instr) : Prop := ∀ i, r = some i → instrOp i = op

/-- One row of the decoder's table names an instruction with the OP it tests. -/
theorem HasOp.ite {op code : Byte} {j : Instr} {r : Option Instr} (hcode : instrOp j = code) (hr : HasOp op r) :
    HasOp op (if op = code then some j else r) := by
  split
  next hop => rintro i ⟨⟩; exact hcode.trans hop.symm
  next => exact hr

/-- The instruction that an OP names has that OP (R123). -/
theorem hasOp_instrOf (op sub : Byte) : HasOp op (instrOf op sub) := by
  unfold instrOf
  iterate 17 refine .ite rfl ?_
  exact nofun

theorem word_of_fields (w : Word) : (wordRsv w ++ wordSub w ++ wordOp w : Word) = w := by
  rw [wordRsv, wordSub, wordOp, BitVec.extractLsb'_append_extractLsb'_eq_extractLsb' (by rfl),
    BitVec.extractLsb'_append_extractLsb'_eq_extractLsb' (by rfl)]
  simp

/-- A legal word is the encoding of what it decodes to. -/
theorem encode_of_decode {w : Word} {i : Instr} (h : decode w = some i) : encode i = w := by
  unfold decode at h
  split_ifs at h with hrsv
  split at h
  next j hj =>
    split_ifs at h with hwf
    cases h
    rw [Bool.and_eq_true, beq_iff_eq] at hwf
    rw [encode, hasOp_instrOf _ _ _ hj, hwf.2, ← hrsv]
    exact word_of_fields w
  next => cases h

/-! ### Moves that keep both -/

/-- The session and the orientation code are the same. -/
structure SessionKept (s t : State) : Prop where
  session : t.session = s.session
  orient : t.orient = s.orient

theorem SessionKept.trans {s t u : State} (h : SessionKept s t) (k : SessionKept t u) : SessionKept s u :=
  ⟨k.session.trans h.session, k.orient.trans h.orient⟩

theorem sessionKept_setSeq (s : State) (q : Seq) : SessionKept s (s.setSeq q) := ⟨rfl, rfl⟩

/-- The operation being executed has no completion effect (R160). -/
def Seq.Plain (q : Seq) : Prop := q.op ≠ 0x02 ∧ q.op ≠ 0x03

theorem sessionKept_endOperation {s : State} (h : s.seq.Plain) : SessionKept s (endOperation s) := by
  rw [endOperation_without_completion s h.1 h.2]
  exact ⟨rfl, rfl⟩

theorem sessionKept_endIfDrained (s : State) (h : s.seq.Plain) : SessionKept s (endIfDrained s) := by
  unfold endIfDrained
  split
  · exact sessionKept_endOperation h
  · exact ⟨rfl, rfl⟩

/-- Streams are SET_PIXELS's, BLIT's and SEND_CMD's. -/
theorem plain_of_streaming {s : State} (hi : Inv s) (hs : s.seq.stream ≠ .none) : s.seq.Plain := by
  cases hk : s.seq.stream with
  | none => exact absurd hk hs
  | pixels => simp [Seq.Plain, (hi.pixelsOp hk).1]
  | bytes => rcases (hi.bytesOp hk).1 with hop | hop <;> simp [Seq.Plain, hop]

theorem sessionKept_takeEndStream {s : State} (hi : Inv s) : SessionKept s (takeEndStream s) := by
  rcases takeEndStream_cases s with ⟨-, h⟩ | ⟨-, hs, h⟩ <;> rw [h]
  · exact ⟨rfl, rfl⟩
  · have hplain : (closeStream s.seq).Plain := plain_of_streaming (s := s) hi hs
    exact (sessionKept_setSeq s _).trans (sessionKept_endIfDrained _ hplain)

theorem sessionKept_takeDatum {s : State} (hi : Inv s) (w : Word) : SessionKept s (takeDatum w s) := by
  rcases takeDatum_cases w s with ⟨-, h⟩ | ⟨-, hs, ⟨-, -, h⟩ | ⟨-, ⟨-, h⟩ | ⟨-, h⟩⟩⟩ <;> rw [h]
  · exact ⟨rfl, rfl⟩
  · have hplain : (closeStream (bufferDatum s.cfg s.seq w)).Plain := plain_of_streaming (s := s) hi hs
    exact (sessionKept_setSeq s _).trans (sessionKept_endIfDrained _ hplain)
  · exact sessionKept_setSeq s _
  · exact sessionKept_setSeq s _

theorem sessionKept_changeFont (table : List Glyph) (takeNew : List Bool) (s : State) :
    SessionKept s (changeFont table takeNew s) := by
  rcases changeFont_cases table takeNew s with ⟨-, h⟩ | ⟨-, hop, h⟩ <;> rw [h]
  · exact ⟨rfl, rfl⟩
  · have hplain : (redrawGlyph s.cfg (redrawnColumns { s.cfg with font := table } takeNew s.seq) s.seq).Plain := by
      simp [Seq.Plain, redrawGlyph, hop]
    exact SessionKept.trans (t := (s.setCfg { s.cfg with font := table }).setSeq _) ⟨rfl, rfl⟩ (sessionKept_endIfDrained _ hplain)

theorem sessionKept_startIllegal (s : State) : SessionKept s (startIllegal s) := by
  unfold startIllegal
  split_ifs <;> exact ⟨rfl, rfl⟩

/-! ### Command words -/

/-- A starting word keeps the orientation code, and the session but for HARD_RESET's effect at accept, if INIT and
SET_ORIENTATION always owe something. -/
theorem start_session {o : Operation} (s : State) (hplain : o.todo = [] → o.op ≠ 0x02 ∧ o.op ≠ 0x03) :
    SessionKept s (start o s) ∨ o.unready = true ∧ (start o s).session = .uninit ∧ (start o s).orient = s.orient := by
  have haccept : SessionKept s (accept o s) ∨ o.unready = true ∧ (accept o s).session = .uninit ∧ (accept o s).orient = s.orient := by
    cases hun : o.unready with
    | false => exact .inl ⟨by simp [accept, hun], rfl⟩
    | true => exact .inr ⟨rfl, by simp [accept, hun], rfl⟩
  rcases start_cases o s with ⟨-, h⟩ | ⟨-, -, ⟨e, -, h⟩ | ⟨-, -, -, ⟨htodo, h⟩ | ⟨-, h⟩⟩⟩ <;> rw [h]
  · exact .inl ⟨rfl, rfl⟩
  · exact .inl ⟨rfl, rfl⟩
  · have hend : SessionKept (accept o s) (endOperation (accept o s)) := sessionKept_endOperation (hplain htodo)
    rcases haccept with hkept | ⟨hun, hsession, horient⟩
    · exact .inl (hkept.trans hend)
    · exact .inr ⟨hun, hend.session.trans hsession, hend.orient.trans horient⟩
  · exact haccept

/-- Each meaning but END_STREAM's evaluates an operation; only HARD_RESET's has an effect at accept, and INIT's and
SET_ORIENTATION's owe transactions. -/
theorem exec_is_start_session (i : Instr) (s : State) (hne : i ≠ .endStream) :
    ∃ o : Operation, exec i s = .next (start o s) ∧ (o.unready = true → i = .hardReset) ∧
      (o.todo = [] → o.op ≠ 0x02 ∧ o.op ≠ 0x03) := by
  cases i with
  | endStream => exact absurd rfl hne
  | hardReset => exact ⟨_, rfl, fun _ => rfl, fun _ => by dsimp only; decide⟩
  | init sub => exact ⟨_, rfl, nofun, nofun⟩
  | setOrientation sub => exact ⟨_, rfl, nofun, nofun⟩
  | _ => exact ⟨_, rfl, nofun, fun _ => by dsimp only; decide⟩

theorem session_of_exec {s t : State} (hi : Inv s) {i : Instr} (h : exec i s = .next t) :
    SessionKept s t ∨ i = .hardReset ∧ t.session = .uninit ∧ t.orient = s.orient := by
  by_cases hne : i = .endStream
  · subst hne
    cases h
    exact .inl (sessionKept_takeEndStream hi)
  · obtain ⟨o, ho, hun, hplain⟩ := exec_is_start_session i s hne
    cases ho.symm.trans h
    exact (start_session s hplain).imp_right (And.imp_left hun)

theorem session_of_presentCommand {s t : State} (hi : Inv s) {w : Word} (h : presentCommand w s = .next t) :
    SessionKept s t ∨ w = 0x00000001 ∧ t.session = .uninit ∧ t.orient = s.orient := by
  unfold presentCommand at h
  split at h
  next i hdec =>
    refine (session_of_exec hi h).imp_right (And.imp_left ?_)
    rintro rfl
    exact (encode_of_decode hdec).symm
  next =>
    cases h
    exact .inl (sessionKept_startIllegal s)

/-! ### The end of INIT and SET_ORIENTATION -/

/-- INIT or SET_ORIENTATION ended with NONE and took its completion effect (R153, R156). -/
structure Completes (s t : State) : Prop where
  op : s.seq.op = 0x02 ∨ s.seq.op = 0x03
  session : t.session = if s.seq.op = 0x02 then .ready else s.session
  orient : t.orient = s.seq.sub.extractLsb' 0 2
  idle : t.seq.phase = .idle
  err : t.err = .none

/-- INIT and SET_ORIENTATION expect no bytes, so they end with NONE. -/
theorem endOperation_session (s : State) (hrem : s.seq.op = 0x02 ∨ s.seq.op = 0x03 → s.seq.remaining = 0) :
    SessionKept s (endOperation s) ∨ Completes s (endOperation s) := by
  by_cases hop : s.seq.op = 0x02 ∨ s.seq.op = 0x03
  · rw [endOperation_eq]
    exact .inr ⟨hop, rfl, if_pos hop, rfl, if_pos (hrem hop)⟩
  · exact .inl (sessionKept_endOperation (not_or.mp hop))

theorem remaining_of_completing {s : State} (hi : Inv s) (hrun : s.seq.phase = .run) (hs : s.seq.stream = .none)
    (hn : s.seq.next = .finish) (hop : s.seq.op = 0x02 ∨ s.seq.op = 0x03) : s.seq.remaining = 0 := by
  by_contra hrem
  rcases hi.short hrun hs hn hrem with h | h <;> simp [h] at hop

theorem drained_session (s : State) (hrem : s.seq.stream = .none → s.seq.next = .finish →
    s.seq.op = 0x02 ∨ s.seq.op = 0x03 → s.seq.remaining = 0) : SessionKept s (drained s) ∨ Completes s (drained s) := by
  rcases drained_cases s with ⟨-, h⟩ | ⟨-, -, h⟩ | ⟨hs, hn, h⟩ <;> rw [h]
  · exact .inl (sessionKept_setSeq s _)
  · exact .inl (sessionKept_setSeq s _)
  · exact endOperation_session s (hrem hs hn)

theorem session_of_answered {s : State} (hi : Inv s) (hrun : s.seq.phase = .run) (x : Txn) (more : List Txn) (a : Answer) :
    SessionKept s (answered x more a s) ∨ Completes s (answered x more a s) := by
  unfold answered
  split_ifs
  · rcases drained_session ((s.setHistory (s.history ++ [eventOf x a])).setSeq { s.seq with todo := more })
      (remaining_of_completing (s := s) hi hrun) with hk | hc
    · exact .inl ⟨hk.session, hk.orient⟩
    · exact .inr ⟨hc.op, hc.session, hc.orient, hc.idle, hc.err⟩
  · exact .inl ⟨rfl, rfl⟩
  · exact .inl ⟨rfl, rfl⟩

/-! ### The step -/

/-- What a step can do to the session and the orientation code. -/
inductive SessionMove (s t : State) : Prop
  | kept (h : SessionKept s t)
  | blockReset (hin : ∃ d m, s.inputs.head? = some (.blockReset d m)) (hsession : t.session = .uninit) (horient : t.orient = 0)
  | hardReset (hin : s.inputs.head? = some (.hostWrite 4 0x00 0x00000001)) (hsession : t.session = .uninit)
      (horient : t.orient = s.orient)
  | completes (hrun : s.seq.phase = .run) (h : Completes s t)

theorem sessionMove_of_step {s t : State} (hi : Inv s) (hstep : step s = .next t) : SessionMove s t := by
  have hrest : Inv (s.setInputs s.inputs.tail) := hi.congr rfl rfl rfl rfl
  cases stepMove_of_step hstep with
  | ignored ht => subst ht; exact .kept ⟨rfl, rfl⟩
  | read reads ht => subst ht; exact .kept ⟨rfl, rfl⟩
  | command w hin ht =>
    rcases session_of_presentCommand hrest ht with hk | ⟨rfl, hsession, horient⟩
    · exact .kept ⟨hk.session, hk.orient⟩
    · exact .hardReset hin hsession horient
  | datum w ht =>
    subst ht
    have hk := sessionKept_takeDatum hrest w
    exact .kept ⟨hk.session, hk.orient⟩
  | registers arg0 arg1 arg2 color offset ovr ht => subst ht; exact .kept ⟨rfl, rfl⟩
  | drains _ hrun hnil => exact absurd hnil (hi.running hrun)
  | answers x more a _ hrun _ ht =>
    subst ht
    rcases session_of_answered hrest hrun x more a with hk | hc
    · exact .kept ⟨hk.session, hk.orient⟩
    · exact .completes hrun ⟨hc.op, hc.session, hc.orient, hc.idle, hc.err⟩
  | font table takeNew _ ht =>
    subst ht
    have hk := sessionKept_changeFont table takeNew (s.setInputs s.inputs.tail)
    exact .kept ⟨hk.session, hk.orient⟩
  | reset d m hin ht => subst ht; exact .blockReset ⟨d, m, hin⟩ rfl rfl

/-- Settles O35: the session also keeps its value when SET_ORIENTATION ends. -/
theorem sessionAndOrientationChangeOnlyBy : Obligations.SessionAndOrientationChangeOnlyBy := by
  intro s t hi hstep
  cases sessionMove_of_step hi hstep with
  | kept h => exact ⟨fun hne => absurd h.session hne, fun hne => absurd h.orient hne⟩
  | blockReset hin hsession horient => exact ⟨fun _ => .inl ⟨hin, hsession⟩, fun _ => .inl ⟨hin, horient⟩⟩
  | hardReset hin hsession horient => exact ⟨fun _ => .inr (.inl ⟨hin, hsession⟩), fun hne => absurd horient hne⟩
  | completes hrun h =>
    refine ⟨fun hne => .inr (.inr ?_), fun _ => .inr ⟨hrun, h.op, h.orient, h.idle, h.err⟩⟩
    by_cases hinit : s.seq.op = 0x02
    · exact ⟨hrun, hinit, h.session.trans (if_pos hinit), h.idle, h.err⟩
    · exact absurd (h.session.trans (if_neg hinit)) hne

end Sys2Proof.Machine
end

section
/-! PROOFS. What the outside world may present: the accesses refused (O44), the response sets (O46), and what an answer delivers (O47). -/

namespace Sys2Proof.Machine

/-! ### Refused accesses (R80, R287) -/

theorem accessRefusal_undefined {width off : Nat} (h : width ≠ 4 ∨ off % 4 ≠ 0) :
    accessRefusal width off = some .undefinedAccess := if_neg (by omega)

theorem accessRefusal_outside {off : Nat} (halign : off % 4 = 0) (hoff : 64 ≤ off) :
    accessRefusal 4 off = some .outsideWindow := by
  rw [accessRefusal, if_pos ⟨rfl, halign⟩, if_neg (by omega)]

/-- A read and a write are refused alike. -/
theorem step_refusedAccess {s : State} {width off : Nat} {v : Word} {rest : List Input} {r : Refusal}
    (hin : s.inputs = .hostRead width off :: rest ∨ s.inputs = .hostWrite width off v :: rest)
    (hr : accessRefusal width off = some r) : step s = .refused r := by
  rcases hin with hin | hin <;> rw [step_cons s _ _ hin]
  · simp only [takeInput, hostRead, hr]
  · simp only [takeInput, hostWrite, hr]

/-- Settles O44: the refusal depends on the width and the offset alone. -/
theorem undefinedAccessesAreRefused : Obligations.UndefinedAccessesAreRefused := by
  intro s width off v rest
  refine ⟨fun hin => ⟨fun h => ?_, fun hwidth halign hoff => ?_⟩, fun hin => step_cons s _ _ hin⟩
  · exact step_refusedAccess hin (accessRefusal_undefined h)
  · subst hwidth
    exact step_refusedAccess hin (accessRefusal_outside halign hoff)

/-! ### Response sets (R87) -/

theorem responseAllowed_iff (c : Config) (t : Txn) (r : Response) : responseAllowed c t r = true ↔
    r = .ok ∨
    (((∃ b, t = .cmd b) ∨ ∃ l, t = .data l) ∧ (r = .failTransport ∨ (r = .failDc ∧ c.transport = .spiDcPin))) ∨
    ((∃ level, t = .pin level) ∧ r = .failPin) := by
  cases t <;> cases r <;> simp [responseAllowed]

/-- An answer outside the transaction's response set (R286, log 6). -/
theorem step_answer_refused (s : State) (t : Txn) (more : List Txn) (a : Answer) (rest : List Input)
    (hp : s.seq.phase = .run) (ht : s.seq.todo = t :: more) (h : s.inputs = .answer a :: rest)
    (ha : responseAllowed s.cfg t a.response = false) : step s = .refused .responseOutsideSet := by
  rw [step_cons s _ _ h]; simp [takeInput, sequencerStep, hp, ht, ha]

/-- Settles O46: the step answers a next state exactly for a response of the set. -/
theorem responseSets : Obligations.ResponseSets := by
  intro s t more a rest hp ht hin
  rw [← responseAllowed_iff]
  cases hallowed : responseAllowed s.cfg t a.response with
  | true => simp [step_answer s t more a rest hp ht hin hallowed]
  | false => simp [step_answer_refused s t more a rest hp ht hin hallowed]

/-! ### Delivery (R86, R88) -/

/-- A transaction without bytes puts nothing on the wire. -/
theorem delivery_of_no_pairs {t : Txn} (ht : t.pairs = []) (a : Answer) : delivery t a = [] := by
  unfold delivery
  split <;> simp [ht, drawModes]

theorem delivery_failTransport (t : Txn) (n : Nat) (modes : List WireMode) :
    delivery t ⟨.failTransport, n, modes⟩ = t.pairs.take n := rfl

theorem delivery_failDc (t : Txn) (n : Nat) (modes : List WireMode) :
    delivery t ⟨.failDc, n, modes⟩ = drawModes (t.pairs.take n) modes := rfl

/-- Settles O47: the length and the modes of a delivery are the draw that gives it. -/
theorem deliveryOfATransaction : Obligations.DeliveryOfATransaction := by
  refine ⟨fun _ => delivery_of_no_pairs rfl, fun _ => delivery_of_no_pairs rfl, fun t => ⟨delivery_ok t, ?_, ?_, ?_, ?_⟩⟩
  · rintro ⟨_, n, modes⟩ rfl
    rw [delivery_failTransport]
    exact List.take_prefix n t.pairs
  · intro ps hps
    exact ⟨⟨.failTransport, ps.length, []⟩, rfl, (List.prefix_iff_eq_take.mp hps).symm⟩
  · rintro ⟨_, n, modes⟩ rfl
    rw [delivery_failDc, drawModes_bytes]
    exact (List.take_prefix n t.pairs).map _
  · intro ps hbytes
    exact ⟨⟨.failDc, ps.length, ps.map WirePair.mode⟩, rfl, drawModes_of_bytes _ _ (map_take_of_map_isPrefix hbytes)⟩

end Sys2Proof.Machine
end

section
/-! PROOFS. The sequencer under OK answers: what follows one (O24), and the run of an operation to its end (O26). -/

namespace Sys2Proof.Machine

/-! ### With nothing left to send (R275 cases (b) to (d)) -/

theorem drained_streaming {s : State} (hs : s.seq.stream ≠ .none) : drained s = s.setSeq { s.seq with phase := .wait } := if_pos hs

theorem drained_opening {s : State} (hs : s.seq.stream = .none) (hn : s.seq.next = .openStream) :
    drained s = s.setSeq (openStream s.seq) := by
  rw [drained, if_neg (not_not.mpr hs), if_pos hn]

theorem drained_finish {s : State} (hs : s.seq.stream = .none) (hn : s.seq.next = .finish) : drained s = endOperation s := by
  rw [drained, if_neg (not_not.mpr hs), if_neg (by simp [hn])]

theorem count_zeroExtend (a : Operands) : a.count.zeroExtend 32 = a.aux &&& 0x0000FFFF := by
  apply BitVec.eq_of_toNat_eq
  have hmask : a.aux.toNat &&& 0xFFFF = a.aux.toNat % 2 ^ 16 := Nat.and_two_pow_sub_one_eq_mod _ 16
  simp [Operands.count, lowHalf, hmask]
  omega

/-! ### An OK answer (R275 case (a)) -/

/-- The state an OK answer leaves before the sequencer goes on: the transaction is recorded (R86) and `more` is owed. -/
def State.sentOk (s : State) (t : Txn) (more : List Txn) (rest : List Input) : State :=
  { s with inputs := rest, history := s.history ++ [⟨t, .ok, t.pairs⟩], seq := { s.seq with todo := more } }

section
variable {s : State} {t : Txn} {more : List Txn} {a : Answer} {rest : List Input} (hp : s.seq.phase = .run)
  (hin : s.inputs = .answer a :: rest) (hok : a.response = .ok)
include hp hin hok

theorem step_ok (ht : s.seq.todo = t :: more) :
    step s = .next (if more = [] then drained (s.sentOk t more rest) else s.sentOk t more rest) := by
  rw [step_answer s t more a rest hp ht hin (by rw [hok, responseAllowed_ok]), answered_ok _ _ _ _ hok]
  rfl

theorem step_ok_more (ht : s.seq.todo = t :: more) (hmore : more ≠ []) : step s = .next (s.sentOk t more rest) := by
  rw [step_ok hp hin hok ht, if_neg hmore]

theorem step_ok_last (ht : s.seq.todo = [t]) : step s = .next (drained (s.sentOk t [] rest)) := by
  rw [step_ok hp hin hok ht, if_pos rfl]

theorem step_ok_opens (ht : s.seq.todo = [t]) (hs : s.seq.stream = .none) (hn : s.seq.next = .openStream) :
    step s = .next ((s.sentOk t [] rest).setSeq (openStream { s.seq with todo := [] })) := by
  rw [step_ok_last hp hin hok ht, drained_opening (s := s.sentOk t [] rest) hs hn]
  rfl

theorem step_ok_ends (ht : s.seq.todo = [t]) (hs : s.seq.stream = .none) (hn : s.seq.next = .finish) :
    step s = .next (endOperation (s.sentOk t [] rest)) := by
  rw [step_ok_last hp hin hok ht, drained_finish (s := s.sentOk t [] rest) hs hn]

end

/-- Settles O24: the last answer is followed by what the sequencer does with nothing owed, by cases of the stream and of `seq.next`. -/
theorem okAnswerDecidesWhatFollows : Obligations.OkAnswerDecidesWhatFollows := by
  intro s t more a rest hp ht hin hok
  refine ⟨step_ok_more hp hin hok ht, ?_, ?_, ?_, ?_, ?_⟩ <;> rintro rfl hs
  · rw [step_ok_last hp hin hok ht, drained_streaming (s := s.sentOk t [] rest) hs]
    rfl
  · intro hn hop
    rw [step_ok_opens hp hin hok ht hs hn, openStream_pixels { s.seq with todo := [] } hop]
    rfl
  · intro hn hop
    rw [step_ok_opens hp hin hok ht hs hn, openStream_blit { s.seq with todo := [] } hop]
    rfl
  · intro hn hop
    rw [step_ok_opens hp hin hok ht hs hn, openStream_sendCmd { s.seq with todo := [] } hop, count_zeroExtend]
    rfl
  · intro hn
    rw [step_ok_ends hp hin hok ht hs hn, endOperation_eq]
    rfl

theorem okEvents_cons (t : Txn) (l : List Txn) : okEvents (t :: l) = ⟨t, .ok, t.pairs⟩ :: okEvents l := rfl

/-- Settles O26, by induction on the answers: all but the last leave the operation running with the rest owed. -/
theorem operationRunsToCompletion : Obligations.OperationRunsToCompletion := by
  intro s answers
  induction answers generalizing s with
  | nil =>
    intro rest hp hne _ _ _ hlen
    exact absurd (List.length_eq_zero_iff.mp hlen.symm) hne
  | cons a answers ih =>
    intro rest hp hne hs hn hrem hlen hok hin
    obtain ⟨t, more, ht⟩ := List.exists_cons_of_ne_nil hne
    have hok' : ∀ b ∈ answers, b.response = .ok := fun b hb => hok b (.tail _ hb)
    have hlen' : answers.length = more.length := by simpa [ht] using hlen
    have hok1 : a.response = .ok := hok a (.head _)
    have hin1 : s.inputs = .answer a :: (answerInputs answers ++ rest) := hin
    by_cases hnil : more = []
    · subst hnil
      obtain rfl : answers = [] := List.length_eq_zero_iff.mp hlen'
      rw [List.length_cons, runSteps_next _ _ _ (step_ok_ends hp hin1 hok1 ht hs hn), endOperation_eq, ht]
      simp [State.sentOk, answerInputs, okEvents, hrem]
    · rw [List.length_cons, runSteps_next _ _ _ (step_ok_more hp hin1 hok1 ht hnil),
        ih (s.sentOk t more _) rest hp hnil hs hn hrem hlen' hok' rfl, ht, okEvents_cons, List.append_cons]
      rfl

end Sys2Proof.Machine
end

section
/-! PROOFS. The reference controller: what a window and its pixels' bytes paint (O57, O58). -/

namespace Sys2Proof.Machine

/-! ### Window commands (R25, R102) -/

theorem be16_word (v : Nat) : (BitVec.ofNat 8 (v / 256) ++ BitVec.ofNat 8 v : Half) = BitVec.ofNat 16 v := by
  apply BitVec.eq_of_toNat_eq
  rw [BitVec.toNat_append, ← Nat.shiftLeft_add_eq_or_of_lt (BitVec.isLt _), Nat.shiftLeft_eq]
  simp only [BitVec.toNat_ofNat]
  omega

theorem pairOf_be16 (v w : Nat) : pairOf (BitVec.ofNat 8 (v / 256)) (BitVec.ofNat 8 v) (BitVec.ofNat 8 (w / 256)) (BitVec.ofNat 8 w) =
    (BitVec.ofNat 16 v, BitVec.ofNat 16 w) := by
  rw [pairOf, be16_word, be16_word]

/-- A window sets the controller's window and nothing else (R102). -/
theorem Panel.feedAll_win (c : Config) (p : Panel) (xs ys xe ye : Nat) (h : c.opCaset ≠ c.opRaset) :
    Panel.feedAll c p ((win c xs ys xe ye).flatMap Txn.pairs) =
      { p with cs := .ofNat 16 xs, ce := .ofNat 16 xe, rs := .ofNat 16 ys, re := .ofNat 16 ye, mode := .other } := by
  simp [win, Txn.pairs, be16, Panel.feedAll, Panel.feed, h.symm, pairOf_be16]

theorem Panel.feed_ramwr (c : Config) (p : Panel) (hc : c.opCaset ≠ c.opRamwr) (hr : c.opRaset ≠ c.opRamwr) :
    Panel.feed c p ⟨.cmd, c.opRamwr⟩ = { p with mode := .ram, px := p.cs, py := p.rs, pp := [] } := by
  simp [Panel.feed, hc.symm, hr.symm]

/-! ### Pixels (R103) -/

/-- The data pairs of a byte list. -/
def dataPairs (l : List Byte) : List WirePair := l.map fun b => ⟨.data, b⟩

theorem dataPairs_append (l m : List Byte) : dataPairs (l ++ m) = dataPairs l ++ dataPairs m := List.map_append

theorem Panel.feed_ram (c : Config) (p : Panel) (b : Byte) (hm : p.mode = .ram) :
    Panel.feed c p ⟨.data, b⟩ = Panel.writeByte c p b := by
  simp [Panel.feed, hm]

/-- The frame memory with the pixel at the write pointer set. -/
def Panel.setPixel (p : Panel) (pixel : List Byte) : Panel :=
  { p with pp := [], gram := fun x y => if x = p.px ∧ y = p.py then pixel else p.gram x y }

/-- The bytes that complete a pixel write it and advance the pointer. -/
theorem Panel.feedAll_pixel (c : Config) (l : List Byte) (p : Panel) (hm : p.mode = .ram) (hne : l ≠ [])
    (hlen : (p.pp ++ l).length = bytesPerColor c) :
    Panel.feedAll c p (dataPairs l) = (p.setPixel (p.pp ++ l)).advance := by
  induction l generalizing p with
  | nil => exact absurd rfl hne
  | cons b l ih =>
    have hstep : Panel.feedAll c p (dataPairs (b :: l)) = Panel.feedAll c (Panel.writeByte c p b) (dataPairs l) := by
      rw [← Panel.feed_ram c p b hm]
      rfl
    rw [hstep]
    cases l with
    | nil => rw [Panel.writeByte, if_pos hlen]; rfl
    | cons d l =>
      rw [Panel.writeByte, if_neg (by simp at hlen ⊢; omega), ih]
      · simp [Panel.setPixel]
      · exact hm
      · simp
      · simpa using hlen

/-! ### A window's pixels in order (R104) -/

namespace Panel

/-- The columns of the controller's window. -/
def width (p : Panel) : Nat := p.ce.toNat - p.cs.toNat + 1

/-- The rows of the controller's window. -/
def height (p : Panel) : Nat := p.re.toNat - p.rs.toNat + 1

/-- A pixel stands in the window. -/
def InWindow (p : Panel) (x y : Half) : Prop :=
  p.cs.toNat ≤ x.toNat ∧ x.toNat ≤ p.ce.toNat ∧ p.rs.toNat ≤ y.toNat ∧ y.toNat ≤ p.re.toNat

/-- How many of the window's pixels come before a pixel, row by row. -/
def index (p : Panel) (x y : Half) : Nat := (y.toNat - p.rs.toNat) * p.width + (x.toNat - p.cs.toNat)

/-- The bytes of pixel number `k`. -/
def pixelAt (c : Config) (bytes : List Byte) (k : Nat) : List Byte := (bytes.drop (k * bytesPerColor c)).take (bytesPerColor c)

/-- What the controller `q` holds once the first `k` pixels of `bytes` are written to the window of `p`. -/
structure Painted (c : Config) (p : Panel) (bytes : List Byte) (k : Nat) (q : Panel) : Prop where
  cs : q.cs = p.cs
  ce : q.ce = p.ce
  rs : q.rs = p.rs
  re : q.re = p.re
  mode : q.mode = .ram
  pp : q.pp = []
  px : k < p.width * p.height → q.px.toNat = p.cs.toNat + k % p.width
  py : k < p.width * p.height → q.py.toNat = p.rs.toNat + k / p.width
  written : ∀ x y, p.InWindow x y → p.index x y < k → q.gram x y = pixelAt c bytes (p.index x y)
  kept : ∀ x y, ¬ (p.InWindow x y ∧ p.index x y < k) → q.gram x y = p.gram x y

/-- Row by row, a cell comes before the end of its last row. -/
theorem cell_lt {i j w h : Nat} (hi : i < w) (hj : j < h) : j * w + i < w * h :=
  calc j * w + i < j * w + w := Nat.add_lt_add_left hi _
    _ = w * (j + 1) := by rw [Nat.mul_comm w, Nat.succ_mul]
    _ ≤ w * h := Nat.mul_le_mul_left w hj

theorem column_lt_width {p : Panel} {x y : Half} (h : p.InWindow x y) : x.toNat - p.cs.toNat < p.width := by
  obtain ⟨_, _, -, -⟩ := h
  unfold width
  omega

theorem index_lt {p : Panel} {x y : Half} (h : p.InWindow x y) : p.index x y < p.width * p.height := by
  refine cell_lt (column_lt_width h) ?_
  obtain ⟨-, -, _, _⟩ := h
  unfold height
  omega

theorem index_div {p : Panel} {x y : Half} (h : p.InWindow x y) : p.index x y / p.width = y.toNat - p.rs.toNat := by
  rw [index, Nat.mul_comm, Nat.mul_add_div (Nat.zero_lt_of_lt (column_lt_width h)), Nat.div_eq_of_lt (column_lt_width h), Nat.add_zero]

theorem index_mod {p : Panel} {x y : Half} (h : p.InWindow x y) : p.index x y % p.width = x.toNat - p.cs.toNat := by
  rw [index, Nat.mul_comm, Nat.mul_add_mod, Nat.mod_eq_of_lt (column_lt_width h)]

/-- Before the window's last column the pointer moves right. -/
theorem advance_right {p : Panel} (h : p.px.toNat < p.ce.toNat) (hrow : p.py.toNat ≤ p.re.toNat) :
    p.advance.px.toNat = p.px.toNat + 1 ∧ p.advance.py = p.py := by
  have hce := p.ce.isLt
  have hcol : ¬ p.ce.toNat < p.px.toNat + 1 := by omega
  have hrow' : ¬ p.re.toNat < p.py.toNat := by omega
  simp only [advance, hcol, hrow', decide_false, Bool.false_eq_true, if_false, BitVec.ofNat_toNat, BitVec.setWidth_eq, and_true]
  bv_omega

/-- At the window's last column it moves to the next row's first. -/
theorem advance_down {p : Panel} (h : p.px.toNat = p.ce.toNat) (hrow : p.py.toNat < p.re.toNat) :
    p.advance.px = p.cs ∧ p.advance.py.toNat = p.py.toNat + 1 := by
  have hre := p.re.isLt
  have hcol : p.ce.toNat < p.px.toNat + 1 := by omega
  have hrow' : ¬ p.re.toNat < p.py.toNat + 1 := by omega
  simp only [advance, hcol, hrow', decide_true, if_true, if_false, true_and, BitVec.toNat_ofNat]
  omega

/-- Counting a window's pixels row by row: the next one stands to the right, or first in the next row. -/
theorem next_cell (k w : Nat) (hw : 0 < w) :
    (k % w + 1 < w ∧ (k + 1) / w = k / w ∧ (k + 1) % w = k % w + 1) ∨
    (k % w + 1 = w ∧ (k + 1) / w = k / w + 1 ∧ (k + 1) % w = 0) := by
  have hk := Nat.mod_add_div k w
  rcases Nat.lt_or_eq_of_le (Nat.mod_lt k hw : k % w + 1 ≤ w) with h | h
  · exact .inl ⟨h, (Nat.div_mod_unique hw).mpr ⟨by omega, h⟩⟩
  · exact .inr ⟨h, (Nat.div_mod_unique hw).mpr ⟨by rw [Nat.mul_add]; omega, hw⟩⟩

section
variable {c : Config} {p q : Panel} {bytes : List Byte} {k : Nat} (h : Painted c p bytes k q) (hx : p.cs.toNat ≤ p.ce.toNat)
  (hy : p.rs.toNat ≤ p.re.toNat) (hk : k < p.width * p.height)
include h hx hy hk

/-- The write pointer stands in the window. -/
theorem Painted.pointer_inWindow : p.InWindow q.px q.py := by
  have hcol : k % p.width < p.width := Nat.mod_lt k (Nat.succ_pos _)
  have hrow : k / p.width < p.height := Nat.div_lt_of_lt_mul hk
  have hw : p.width = p.ce.toNat - p.cs.toNat + 1 := rfl
  have hh : p.height = p.re.toNat - p.rs.toNat + 1 := rfl
  rw [InWindow, h.px hk, h.py hk]
  exact ⟨Nat.le_add_right _ _, by omega, Nat.le_add_right _ _, by omega⟩

/-- The write pointer is at pixel number `k`. -/
theorem Painted.pointer_iff (x y : Half) : (x = q.px ∧ y = q.py) ↔ p.InWindow x y ∧ p.index x y = k := by
  constructor
  · rintro ⟨rfl, rfl⟩
    refine ⟨h.pointer_inWindow hx hy hk, ?_⟩
    rw [index, h.px hk, h.py hk, Nat.add_sub_cancel_left, Nat.add_sub_cancel_left, Nat.div_add_mod']
  · rintro ⟨hin, rfl⟩
    have hpx := h.px hk
    have hpy := h.py hk
    rw [index_mod hin] at hpx
    rw [index_div hin] at hpy
    obtain ⟨hx1, -, hy1, -⟩ := hin
    exact ⟨BitVec.eq_of_toNat_eq (by omega), BitVec.eq_of_toNat_eq (by omega)⟩

/-- The pointer after a pixel is at the next one, as long as there is one. -/
theorem Painted.advance_pointer (hnext : k + 1 < p.width * p.height) :
    q.advance.px.toNat = p.cs.toNat + (k + 1) % p.width ∧ q.advance.py.toNat = p.rs.toNat + (k + 1) / p.width := by
  have hpx := h.px hk
  have hpy := h.py hk
  have hw : p.width = p.ce.toNat - p.cs.toNat + 1 := rfl
  have hh : p.height = p.re.toNat - p.rs.toNat + 1 := rfl
  have hrow : (k + 1) / p.width < p.height := Nat.div_lt_of_lt_mul hnext
  rw [hh] at hrow
  rcases next_cell k p.width (Nat.succ_pos _) with ⟨hlt, hd, hm⟩ | ⟨hlast, hd, hm⟩ <;> rw [hd] at hrow ⊢ <;> rw [hm]
  · obtain ⟨ax, ay⟩ := advance_right (p := q) (by rw [h.ce]; omega) (by rw [h.re]; omega)
    rw [ax, ay]
    omega
  · obtain ⟨ax, ay⟩ := advance_down (p := q) (by rw [h.ce]; omega) (by rw [h.re]; omega)
    rw [ax, ay, h.cs]
    omega

/-- One more pixel's bytes paint one more pixel. -/
theorem Painted.next (hlen : (pixelAt c bytes k).length = bytesPerColor c) :
    Painted c p bytes (k + 1) (feedAll c q (dataPairs (pixelAt c bytes k))) := by
  have hne : pixelAt c bytes k ≠ [] := by
    rw [← List.length_pos_iff, hlen]
    exact bytesPerColor_pos c
  rw [feedAll_pixel c _ q h.mode hne (by rw [h.pp]; exact hlen), h.pp, List.nil_append]
  have hpointer := h.pointer_iff hx hy hk
  have hadv : k + 1 < p.width * p.height → _ := h.advance_pointer hx hy hk
  exact {
    cs := h.cs
    ce := h.ce
    rs := h.rs
    re := h.re
    mode := h.mode
    pp := rfl
    px := fun hn => (hadv hn).1
    py := fun hn => (hadv hn).2
    written := fun x y hin hi => by
      by_cases heq : p.index x y = k
      · exact (if_pos ((hpointer x y).mpr ⟨hin, heq⟩)).trans (by rw [heq])
      · exact (if_neg fun hat => heq ((hpointer x y).mp hat).2).trans (h.written x y hin (by omega))
    kept := fun x y hout => by
      have hoff : ¬ (x = q.px ∧ y = q.py) := fun hat => by
        obtain ⟨hin, hi⟩ := (hpointer x y).mp hat
        exact hout ⟨hin, by omega⟩
      exact (if_neg hoff).trans (h.kept x y fun hin => hout (hin.imp_right Nat.lt_succ_of_lt)) }

end

/-- Memory-write starts at the window's first pixel (R102): nothing is painted yet. -/
theorem Painted.zero {c : Config} {p : Panel} {bytes : List Byte} (hm : p.mode = .ram) (hp : p.pp = [])
    (hx : p.px = p.cs) (hy : p.py = p.rs) : Painted c p bytes 0 p where
  cs := rfl
  ce := rfl
  rs := rfl
  re := rfl
  mode := hm
  pp := hp
  px _ := by rw [hx, Nat.zero_mod, Nat.add_zero]
  py _ := by rw [hy, Nat.zero_div, Nat.add_zero]
  written _ _ _ hi := absurd hi (Nat.not_lt_zero _)
  kept _ _ _ := rfl

/-- The bytes of the first `k` pixels paint the first `k` pixels, by induction on `k`. -/
theorem painted_take {c : Config} {p : Panel} {bytes : List Byte} (hx : p.cs.toNat ≤ p.ce.toNat) (hy : p.rs.toNat ≤ p.re.toNat)
    (hlen : bytes.length = p.width * p.height * bytesPerColor c) (hzero : Painted c p bytes 0 p) (k : Nat)
    (hk : k ≤ p.width * p.height) : Painted c p bytes k (feedAll c p (dataPairs (bytes.take (k * bytesPerColor c)))) := by
  induction k with
  | zero => rw [Nat.zero_mul]; exact hzero
  | succ k ih =>
    have hfit : (k + 1) * bytesPerColor c ≤ bytes.length := hlen ▸ Nat.mul_le_mul_right _ hk
    rw [Nat.succ_mul] at hfit ⊢
    have hpixel : (pixelAt c bytes k).length = bytesPerColor c := by
      rw [pixelAt, List.length_take, List.length_drop]
      omega
    rw [List.take_add, dataPairs_append, feedAll_append]
    exact (ih (by omega)).next hx hy hk hpixel

/-- The controller after a window and the memory-write command. -/
def opened (p : Panel) (xs ys xe ye : Nat) : Panel :=
  { p with
    cs := .ofNat 16 xs, ce := .ofNat 16 xe, rs := .ofNat 16 ys, re := .ofNat 16 ye, mode := .ram,
    px := .ofNat 16 xs, py := .ofNat 16 ys, pp := [] }

theorem feedAll_open (c : Config) (p : Panel) (xs ys xe ye : Nat) (hd : Config.windowOpcodesDistinct c) :
    feedAll c p ((win c xs ys xe ye ++ [Txn.cmd c.opRamwr]).flatMap Txn.pairs) = p.opened xs ys xe ye := by
  obtain ⟨hcr, hcw, hrw⟩ := hd
  rw [List.flatMap_append, feedAll_append, feedAll_win c p xs ys xe ye hcr]
  exact feed_ramwr c _ hcw hrw

end Panel

theorem half_toNat {v : Nat} (h : v ≤ 0xFFFF) : (BitVec.ofNat 16 v).toNat = v := by
  rw [BitVec.toNat_ofNat, Nat.mod_eq_of_lt (by omega)]

/-- Settles O57: all the window's pixels are written once the pixels' bytes are taken, each with the bytes of its number. -/
theorem windowIsPaintedRowMajor : Obligations.WindowIsPaintedRowMajor := by
  intro c p xs ys xe ye bytes hd hxs hys hxe hye hlen q x y
  have hcs : (p.opened xs ys xe ye).cs.toNat = xs := half_toNat (by omega)
  have hce : (p.opened xs ys xe ye).ce.toNat = xe := half_toNat hxe
  have hrs : (p.opened xs ys xe ye).rs.toNat = ys := half_toNat (by omega)
  have hre : (p.opened xs ys xe ye).re.toNat = ye := half_toNat hye
  have hw : (p.opened xs ys xe ye).width = xe - xs + 1 := by rw [Panel.width, hcs, hce]
  have hh : (p.opened xs ys xe ye).height = ye - ys + 1 := by rw [Panel.height, hrs, hre]
  have hin : (p.opened xs ys xe ye).InWindow x y ↔ xs ≤ x.toNat ∧ x.toNat ≤ xe ∧ ys ≤ y.toNat ∧ y.toNat ≤ ye := by
    rw [Panel.InWindow, hcs, hce, hrs, hre]
  have hq : q = Panel.feedAll c (p.opened xs ys xe ye) (dataPairs bytes) := by
    rw [← Panel.feedAll_open c p xs ys xe ye hd, ← Panel.feedAll_append]
    rfl
  have hpainted : Panel.Painted c (p.opened xs ys xe ye) bytes ((xe - xs + 1) * (ye - ys + 1)) q := by
    have hall := Panel.painted_take (c := c) (p := p.opened xs ys xe ye) (bytes := bytes) (by omega) (by omega)
      (by rw [hw, hh]; exact hlen) (.zero rfl rfl rfl rfl) _ (Nat.le_refl _)
    rw [hw, hh, ← hlen, List.take_length, ← hq] at hall
    exact hall
  constructor
  · intro h1 h2 h3 h4
    have hxy := hin.mpr ⟨h1, h2, h3, h4⟩
    rw [hpainted.written x y hxy (hw ▸ hh ▸ Panel.index_lt hxy), Panel.index, hw, hcs, hrs]
    rfl
  · intro hout
    exact hpainted.kept x y fun h => hout (hin.mp h.1)

/-! ### A filled rectangle (R183, R220) -/

theorem pixelAt_replicate (c : Config) (color : Word) {n i : Nat} (hi : i < n) :
    Panel.pixelAt c (List.replicate n (pix c color)).flatten i = pix c color := by
  have hskip : (List.replicate i (pix c color)).flatten.length = i * bytesPerColor c := by simp
  have hsplit : List.replicate n (pix c color) =
      List.replicate i (pix c color) ++ pix c color :: List.replicate (n - (i + 1)) (pix c color) := by
    rw [← List.replicate_succ, ← List.replicate_add]
    congr 1
    omega
  rw [Panel.pixelAt, hsplit, List.flatten_append, List.flatten_cons, List.drop_left' hskip, List.take_left' (pix_length c color)]

theorem rect_pairs (c : Config) (a : Operands) (x0 y0 x1 y1 : Nat) :
    (rect c a x0 y0 x1 y1).flatMap Txn.pairs =
      (winAt c a x0 y0 x1 y1 ++ [Txn.cmd c.opRamwr]).flatMap Txn.pairs ++
        (List.replicate ((x1 - x0 + 1) * (y1 - y0 + 1)) (pix c a.color)).flatten.map fun b => ⟨.data, b⟩ := by
  rw [rect, List.flatMap_append, fill, chunks_pairs]
  rfl

/-- A command word after which the block runs was accepted with what it owes. -/
theorem start_accepted {o : Operation} {s : State} (h : s.accepting) (hrun : (start o s).seq.phase = .run) :
    o.checks = true ∧ (start o s).seq.todo = o.todo := by
  obtain ⟨hp, hs⟩ := h
  rcases start_cases o s with ⟨hbusy, -⟩ | ⟨-, -, ⟨e, -, hstart⟩ | ⟨-, -, hchecks, ⟨-, hstart⟩ | ⟨-, hstart⟩⟩⟩
  · exact absurd hbusy (by simp [hp, hs])
  · rw [hstart] at hrun
    exact absurd hrun hp
  · rw [hstart, endOperation_eq] at hrun
    cases hrun
  · rw [hstart]
    exact ⟨hchecks, rfl⟩

/-- A filled rectangle paints its pixels in its colour and no other (R183, R220). -/
theorem rect_paints (c : Config) (p : Panel) (a : Operands) {x0 y0 x1 y1 : Nat} (hd : Config.windowOpcodesDistinct c)
    (hx : x0 ≤ x1) (hy : y0 ≤ y1) (hxe : x1 + a.offx.toNat ≤ 0xFFFF) (hye : y1 + a.offy.toNat ≤ 0xFFFF) (x y : Half) :
    let q := Panel.feedAll c p ((rect c a x0 y0 x1 y1).flatMap Txn.pairs)
    let inside := x0 + a.offx.toNat ≤ x.toNat ∧ x.toNat ≤ x1 + a.offx.toNat ∧
      y0 + a.offy.toNat ≤ y.toNat ∧ y.toNat ≤ y1 + a.offy.toNat
    (inside → q.gram x y = pix c a.color) ∧ (¬ inside → q.gram x y = p.gram x y) := by
  have hw : x1 + a.offx.toNat - (x0 + a.offx.toNat) = x1 - x0 := Nat.add_sub_add_right _ _ _
  have hh : y1 + a.offy.toNat - (y0 + a.offy.toNat) = y1 - y0 := Nat.add_sub_add_right _ _ _
  obtain ⟨hinside, houtside⟩ := windowIsPaintedRowMajor c p (x0 + a.offx.toNat) (y0 + a.offy.toNat) (x1 + a.offx.toNat)
    (y1 + a.offy.toNat) (List.replicate ((x1 - x0 + 1) * (y1 - y0 + 1)) (pix c a.color)).flatten
    hd (by omega) (by omega) hxe hye (by simp [hw, hh]) x y
  rw [rect_pairs]
  refine ⟨fun ⟨h1, h2, h3, h4⟩ => (hinside h1 h2 h3 h4).trans (pixelAt_replicate c a.color ?_), houtside⟩
  rw [hw]
  exact Panel.cell_lt (by omega) (by omega)

/-- Settles O58: an accepted DRAW_RECT has passed its checks and owes the filled rectangle. -/
theorem drawRectPaintsItsRectangle : Obligations.DrawRectPaintsItsRectangle := by
  intro s t p hacc hd _ hexec hrun q a x y
  cases hexec
  obtain ⟨hchecks, htodo⟩ := start_accepted hacc hrun
  obtain ⟨hx, hy, hxe, hye⟩ := (cornersOk_iff a).mp hchecks
  have hq : q = Panel.feedAll s.cfg p ((rect s.cfg a a.x0.toNat a.y0.toNat a.x1.toNat a.y1.toNat).flatMap Txn.pairs) :=
    congrArg (fun todo => Panel.feedAll s.cfg p (todo.flatMap Txn.pairs)) htodo
  rw [hq]
  exact rect_paints s.cfg p a hd hx hy hxe hye x y

end Sys2Proof.Machine
end

section
/-! PROOFS. The reference controller: what the history tells of it, with a failure in it and after a sync point (O59). -/

namespace Sys2Proof.Machine

/-! ### Events of the session operations (R151, R153) -/

theorem wireOf_okEvents (l : List Txn) : wireOf (okEvents l) = l.flatMap Txn.pairs := by
  simp [wireOf, okEvents, List.flatMap_map]

theorem okEvents_response {l : List Txn} {x : Event} (hx : x ∈ okEvents l) : x.response = .ok := by
  obtain ⟨t, -, rfl⟩ := List.mem_map.mp hx
  rfl

theorem okEvents_txn {l : List Txn} {x : Event} (hx : x ∈ okEvents l) : x.txn ∈ l := by
  obtain ⟨t, ht, rfl⟩ := List.mem_map.mp hx
  exact ht

theorem initTxns_no_pin (c : Config) (o : BitVec 2) (level : Bool) : Txn.pin level ∉ initTxns c o := by
  cases h : c.invertOn <;> simp [initTxns, h]

theorem swreset_mem_initTxns (c : Config) (o : BitVec 2) : Txn.cmd c.opSwreset ∈ initTxns c o := .head _

theorem pin_mem_hardResetTxns {c : Config} (h : c.hasResetPin = true) : Txn.pin true ∈ hardResetTxns c := by
  simp [hardResetTxns, h]

/-! ### Sync points (R101, R277, log 19) -/

/-- If the controller follows the wire after a failure, the hard reset and the INIT of its sync point came after that failure. -/
theorem sync_after_failure {c : Config} {before after h later : List Event} {e : Event} (hsync : SyncPoint c before)
    (hfollow : Followed c after) (he : e.response ≠ .ok) (heq : h ++ e :: later = before ++ after) :
    (∀ t ∈ hardResetTxns c, ∃ x ∈ later, x.txn = t) ∧ ∃ x ∈ later, x.txn = .cmd c.opSwreset := by
  obtain ⟨front, between, o, hbetween, rfl⟩ := hsync
  let followed := okEvents (hardResetTxns c) ++ between ++ okEvents (initTxns c o) ++ after
  have hok : ∀ x ∈ followed, x.response = .ok := by
    intro x hx
    simp only [followed, List.mem_append] at hx
    rcases hx with ((hx | hx) | hx) | hx
    · exact okEvents_response hx
    · exact hbetween x hx
    · exact okEvents_response hx
    · exact (hfollow x hx).1
  have hsplit : h ++ e :: later = front ++ followed := by simp [heq, followed]
  have hlater : followed <:+ later := by
    rcases List.suffix_or_suffix_of_suffix ⟨front, rfl⟩ ⟨h, hsplit⟩ with hs | hs
    · rcases List.suffix_cons_iff.mp hs with hs | hs
      · exact absurd (hok e (hs ▸ .head _)) he
      · exact hs
    · exact absurd (hok e (hs.subset (.head _))) he
  have hmem : ∀ t, t ∈ hardResetTxns c ∨ t ∈ initTxns c o → ∃ x ∈ later, x.txn = t := by
    intro t ht
    refine ⟨⟨t, .ok, t.pairs⟩, hlater.subset ?_, rfl⟩
    simp only [followed, okEvents, List.mem_append]
    rcases ht with ht | ht
    · exact .inl (.inl (.inl (List.mem_map_of_mem ht)))
    · exact .inl (.inr (List.mem_map_of_mem ht))
  exact ⟨fun t ht => hmem t (.inl ht), hmem _ (.inr (swreset_mem_initTxns c o))⟩

theorem syncPoint_init (c : Config) (h : List Event) (o : BitVec 2) :
    SyncPoint c (h ++ okEvents (hardResetTxns c) ++ okEvents (initTxns c o)) :=
  ⟨h, [], o, nofun, by simp⟩

theorem not_syncPoint_nil (c : Config) : ¬ SyncPoint c [] := by
  rintro ⟨front, between, o, -, heq⟩
  simp [okEvents, initTxns] at heq

/-- Settles O59: a failure must come before the sync point, which INIT alone or nothing does not give; after one a window is known. -/
theorem panelFollowsOnlyFromASyncPoint : Obligations.PanelFollowsOnlyFromASyncPoint := by
  refine ⟨?_, Panel.admitted_feedAll, ?_, ?_, ?_⟩
  · intro c p before after heq hsync
    obtain ⟨rfl, -⟩ := List.append_eq_nil_iff.mp heq.symm
    exact absurd hsync (not_syncPoint_nil c)
  · intro c h e p he before after heq hsync hfollow
    obtain ⟨-, x, hx, -⟩ := sync_after_failure hsync hfollow he heq
    exact absurd hx List.not_mem_nil
  · intro c h later e o p hpin he hlater before after heq hsync hfollow
    have heq' : h ++ e :: (later ++ okEvents (initTxns c o)) = before ++ after := by simpa using heq
    obtain ⟨x, hx, htxn⟩ := (sync_after_failure hsync hfollow he heq').1 _ (pin_mem_hardResetTxns hpin)
    rcases List.mem_append.mp hx with hx | hx
    · exact absurd htxn (hlater x hx true)
    · exact absurd (htxn ▸ okEvents_txn hx) (initTxns_no_pin c o true)
  · intro c h o xs ys xe ye p hd hsc hsr hxs hys hxe hye hadm
    have hfollow : Followed c (okEvents (win c xs ys xe ye)) := by
      intro e he
      refine ⟨okEvents_response he, ?_⟩
      have htxn := okEvents_txn he
      simp only [win, List.mem_cons, List.not_mem_nil, or_false] at htxn
      rcases htxn with h | h | h | h <;> simp [h, hsc.symm, hsr.symm]
    obtain ⟨p0, rfl⟩ := hadm _ _ rfl (syncPoint_init c h o) hfollow
    rw [wireOf_okEvents, Panel.feedAll_win c p0 xs ys xe ye hd]
    exact ⟨half_toNat hxs, half_toNat hxe, half_toNat hys, half_toNat hye⟩

end Sys2Proof.Machine
end

section
/-! PROOFS. A change of the font table under a running DRAW_GLYPH (O60). -/

namespace Sys2Proof.Machine

/-! ### R249's loop and its columns -/

theorem flatMap_filter_eq_ite {α β : Type} (p : α → Bool) (f : α → List β) (l : List α) :
    (l.filter p).flatMap f = l.flatMap fun x => if p x = true then f x else [] := by
  induction l with
  | nil => rfl
  | cons x l ih => cases h : p x <;> simp [h, ih]

/-- DRAW_GLYPH's list as R249 writes its loop: columns outside, rows inside, a PLOT per set bit. -/
theorem glyphTxns_eq_loop (c : Config) (a : Operands) (cols : List Byte) :
    glyphTxns c a cols = (List.range 5).flatMap fun col => (List.range 7).flatMap fun row =>
      if (cols[col]?.getD 0).getLsbD row = true then plot c a (a.x0.toNat - col) (a.y0.toNat - row) else [] := by
  simp only [glyphTxns, plotAll, glyphPoints, glyphCells, columnCells, List.flatMap_map, List.flatMap_assoc, flatMap_filter_eq_ite]
  rfl

theorem columnAt_take (cols : List Byte) (j i : Nat) : columnAt (cols.take j) i = if i < j then columnAt cols i else 0 := by
  rw [columnAt, List.getElem?_take]
  split <;> rfl

theorem columnCells_blank {cols : List Byte} {col : Nat} (h : columnAt cols col = 0) : columnCells cols col = [] := by
  simp [columnCells, h]

/-- The cells of the first `j` columns alone. -/
theorem glyphCells_take (cols : List Byte) {j : Nat} (hj : j ≤ 5) :
    glyphCells (cols.take j) = (List.range j).flatMap (columnCells cols) := by
  have hfirst : (List.range j).flatMap (columnCells (cols.take j)) = (List.range j).flatMap (columnCells cols) := by
    rw [List.flatMap_def, List.flatMap_def]
    congr 1
    refine List.map_congr_left fun i hi => columnCells_congr _ _ _ ?_
    rw [columnAt_take, if_pos (List.mem_range.mp hi)]
  have hrest : (List.range' j (5 - j)).flatMap (columnCells (cols.take j)) = [] := by
    refine List.flatMap_eq_nil_iff.mpr fun i hi => columnCells_blank ?_
    rw [columnAt_take, if_neg (by have := (List.mem_range'_1.mp hi).1; omega)]
  rw [glyphCells_split _ j hj, hfirst, hrest, List.append_nil]

/-- The first `j + 1` columns' cells are the first `j` columns' and then column `j`'s. -/
theorem glyphCells_take_succ (cols : List Byte) {j : Nat} (hj : j < 5) :
    glyphCells (cols.take (j + 1)) = glyphCells (cols.take j) ++ columnCells cols j := by
  rw [glyphCells_take cols hj, glyphCells_take cols (Nat.le_of_lt hj), List.range_succ, List.flatMap_append]
  simp

theorem glyphCells_take_prefix (cols : List Byte) {j : Nat} (hj : j ≤ 5) : glyphCells (cols.take j) <+: glyphCells cols := by
  rw [glyphCells_take cols hj, glyphCells_split cols j hj]
  exact List.prefix_append _ _

/-- A cell after the first `j` columns' and within the first `j + 1` columns' stands in column `j`. -/
theorem glyphCells_getElem_column {cols : List Byte} {j m : Nat} (hj : j < 5) (hlow : (glyphCells (cols.take j)).length ≤ m)
    (hhigh : m < (glyphCells (cols.take (j + 1))).length) : ∃ cell, (glyphCells cols)[m]? = some cell ∧ cell.1 = j := by
  obtain ⟨rest, hrest⟩ := glyphCells_take_prefix cols (j := j + 1) hj
  rw [← hrest, List.getElem?_append_left hhigh]
  rw [glyphCells_take_succ cols hj, List.length_append] at hhigh
  rw [glyphCells_take_succ cols hj, List.getElem?_append_right hlow]
  have hm : m - (glyphCells (cols.take j)).length < (columnCells cols j).length := by omega
  exact ⟨_, List.getElem?_eq_getElem hm, columnCells_fst cols j _ (List.getElem_mem hm)⟩

/-! ### How many columns have been read -/

theorem columnsRead_zero {c : Config} {q : Seq} (h : glyphSent c q = 0) : columnsRead c q = 0 := if_pos h

/-- The columns read are those up to the column whose PLOTs are being sent. -/
theorem columnsRead_succ {c : Config} {q : Seq} {j : Nat} (hj : j < 5)
    (hlow : (glyphTxns c q.args (q.columns.take j)).length < glyphSent c q)
    (hhigh : glyphSent c q ≤ (glyphTxns c q.args (q.columns.take (j + 1))).length) : columnsRead c q = j + 1 := by
  rw [glyphTxns_length] at hlow hhigh
  obtain ⟨cell, hcell, rfl⟩ := glyphCells_getElem_column (cols := q.columns)
    (m := (glyphSent c q - 1) / (plot c q.args 0 0).length) hj
    (by rw [plot_length, Nat.le_div_iff_mul_le (by omega)]; omega)
    (by rw [plot_length, Nat.div_lt_iff_lt_mul (by omega)]; omega)
  rw [columnsRead, if_neg (by omega), hcell]

theorem glyphSent_of_append {c : Config} {q : Seq} {sent : List Txn} (h : sent ++ q.todo = glyphTxns c q.args q.columns) :
    glyphSent c q = sent.length := by
  rw [glyphSent, ← h, List.length_append, Nat.add_sub_cancel_right]

/-! ### The running DRAW_GLYPH -/

theorem mixColumns_getElem (c : Config) (read : Nat) (takeNew : List Bool) (old : List Byte) (font ch : Byte) {i : Nat} (hi : i < 5) :
    (mixColumns read takeNew old (glyphColumns c font ch))[i]? =
      some (if read ≤ i ∧ takeNew[i]? = some true then fontColumn c font ch i else old[i]?.getD 0) := by
  rw [mixColumns, List.getElem?_map, List.getElem?_range hi, Option.map_some, columnAt_glyphColumns c font ch i hi]
  rfl

/-- What the columns read owe begins what the mix owes. -/
theorem glyphTxns_take_prefix (c : Config) (a : Operands) {read : Nat} (takeNew : List Bool) (old new : List Byte) (h : read ≤ 5) :
    glyphTxns c a (old.take read) <+: glyphTxns c a (mixColumns read takeNew old new) := by
  have hmix := mix_prefix c a read takeNew old new h
  rwa [← glyphCells_take old h] at hmix

/-- DRAW_GLYPH opens no stream and expects no bytes. -/
theorem Inv.glyph_closed {s : State} (hi : Inv s) (hp : s.seq.phase = .run) (hop : s.seq.op = 0x26) :
    s.seq.stream = .none ∧ s.seq.remaining = 0 := by
  have hs : s.seq.stream = .none := by
    by_contra hs
    exact (hi.streaming hs).op_ne_glyph hop
  have hn : s.seq.next = .finish := by
    cases hn : s.seq.next with
    | finish => rfl
    | openStream =>
      obtain ⟨-, -, -, h | ⟨h, -⟩ | ⟨h, -⟩⟩ := hi.opening hp hn <;> simp [hop] at h
  refine ⟨hs, ?_⟩
  by_contra hrem
  rcases hi.short hp hs hn hrem with h | h <;> simp [hop] at h

/-- A running DRAW_GLYPH that has sent `n` transactions, under the font table `table` with the columns `cols`. -/
def State.redrawn (s : State) (table : List Glyph) (cols : List Byte) (n : Nat) : State :=
  { s with
    cfg := { s.cfg with font := table }
    seq := { s.seq with columns := cols, todo := (glyphTxns s.cfg s.seq.args cols).drop n } }

theorem changeFont_running {s : State} (table : List Glyph) (takeNew : List Bool) (hp : s.seq.phase = .run) (hop : s.seq.op = 0x26) :
    changeFont table takeNew s = endIfDrained (s.redrawn table
      (mixColumns (columnsRead s.cfg s.seq) takeNew s.seq.columns
        (glyphColumns { s.cfg with font := table } s.seq.args.fontId s.seq.sub)) (glyphSent s.cfg s.seq)) :=
  if_pos ⟨hp, hop⟩

theorem endIfDrained_owing {s : State} (htodo : s.seq.todo ≠ []) : endIfDrained s = s := if_neg (by simpa using htodo)

/-- An operation without a completion effect that has sent everything and expects no bytes ends with NONE (R275 case (d)). -/
theorem endIfDrained_ends {s : State} (htodo : s.seq.todo = []) (hrem : s.seq.remaining = 0) (hinit : s.seq.op ≠ 0x02)
    (horient : s.seq.op ≠ 0x03) :
    endIfDrained s = { s with err := .none, seq := { s.seq with todo := [], buf := [], phase := .idle } } := by
  rw [endIfDrained, if_pos (by rw [htodo]; rfl), endOperation_without_completion s hinit horient, if_pos hrem]
  simp only [htodo]

/-- Settles O60: the columns of the PLOTs begun are the model's `columnsRead`, and the mix of the others is the step's. -/
theorem fontChangeMixesOnlyLaterColumns : Obligations.FontChangeMixesOnlyLaterColumns := by
  intro s table takeNew rest hin c a owedBy
  have howed : ∀ cols, owedBy cols = glyphTxns s.cfg a cols := fun cols => (glyphTxns_eq_loop s.cfg a cols).symm
  have hstep := step_fontChange s table takeNew rest hin
  refine ⟨fun hother => hstep.trans (congrArg _ (if_neg hother)), fun sent read hi hp hop hsent hread => ?_⟩
  simp only [howed] at hsent hread ⊢
  have hnum : glyphSent s.cfg s.seq = sent.length := glyphSent_of_append hsent
  have hcolumns : columnsRead s.cfg s.seq = read := by
    rcases hread with ⟨rfl, hnil⟩ | ⟨hpos, hle, hlow, hhigh⟩
    · exact columnsRead_zero (by rw [hnum, hnil]; rfl)
    · obtain ⟨j, rfl⟩ := Nat.exists_eq_add_of_le' hpos
      exact columnsRead_succ hle (hnum ▸ hlow) (hnum ▸ hhigh)
  have hread5 : read ≤ 5 := hcolumns ▸ columnsRead_le s.cfg s.seq
  have hredrawn : step s = .next (endIfDrained ((s.setInputs rest).redrawn table
      (mixColumns read takeNew s.seq.columns (glyphColumns c a.fontId s.seq.sub)) sent.length)) := by
    rw [hstep, changeFont_running (s := s.setInputs rest) table takeNew hp hop, ← hcolumns, ← hnum]
    rfl
  refine ⟨_, ⟨by simp [mixColumns], fun i hi5 => mixColumns_getElem c read takeNew _ a.fontId s.seq.sub hi5⟩,
    glyphTxns_take_prefix s.cfg a takeNew _ _ hread5, fun hne => ?_, fun hnil => ?_⟩
  · rw [hredrawn, endIfDrained_owing hne]
    rfl
  · have hended := endIfDrained_ends (s := (s.setInputs rest).redrawn table _ sent.length) hnil (hi.glyph_closed hp hop).2
      (hop ▸ by decide) (hop ▸ by decide)
    rw [hredrawn, hended]
    rfl

end Sys2Proof.Machine
end

section
/-! PROOFS. The command word: its fields, the decoder and the encoder (O3, O1, O2), and the legal words (O4). -/

namespace Sys2Proof.Machine

/-! ### The fields of a word (R120) -/

@[simp] theorem wordOp_encode (i : Instr) : wordOp (encode i) = instrOp i := BitVec.extractLsb'_append_eq_right

@[simp] theorem wordSub_encode (i : Instr) : wordSub (encode i) = instrSub i := by
  rw [wordSub, encode, BitVec.extractLsb'_append_eq_of_le (Nat.le_refl 8)]
  exact BitVec.extractLsb'_append_eq_right

@[simp] theorem wordRsv_encode (i : Instr) : wordRsv (encode i) = 0 := by
  rw [wordRsv, encode, BitVec.extractLsb'_append_eq_of_le (show 8 ≤ 16 by decide)]
  exact BitVec.extractLsb'_append_eq_left

/-- A word whose fields are an instruction's is its encoding. -/
theorem encode_eq_iff (i : Instr) (w : Word) :
    encode i = w ↔ wordRsv w = 0 ∧ instrSub i = wordSub w ∧ instrOp i = wordOp w := by
  refine ⟨fun h => by simp [← h], fun ⟨hrsv, hsub, hop⟩ => ?_⟩
  rw [encode, hsub, hop, ← hrsv]
  exact word_of_fields w

/-- A masked comparison compares each field under the mask's. -/
theorem fields_of_masked {w m p : Word} (h : w &&& m = p) :
    wordRsv w &&& wordRsv m = wordRsv p ∧ wordSub w &&& wordSub m = wordSub p ∧ wordOp w &&& wordOp m = wordOp p := by
  subst h
  simp only [wordRsv, wordSub, wordOp, BitVec.extractLsb'_and, and_self]

/-- SUB[7:2] is the word's bits 15 to 10. -/
theorem wordSub_high (w : Word) : (wordSub w).extractLsb' 2 6 = w.extractLsb' 10 6 := by
  ext k hk
  simp only [wordSub, BitVec.getElem_extractLsb', BitVec.getLsbD_extractLsb']
  rw [← Nat.add_assoc, decide_eq_true (by omega), Bool.true_and]

/-! ### The round trip -/

/-- The OP and SUB fields of a well-formed instruction name it again, and its word is a row of the table (R121, R123, R124). -/
theorem encodedWord (i : Instr) : Laws.EncodedWord.Statement i := by
  cases i with
  | hardReset => exact Laws.EncodedWord.hardReset
  | init sub => exact Laws.EncodedWord.init sub
  | setOrientation sub => exact Laws.EncodedWord.setOrientation sub
  | sendCmd op => exact Laws.EncodedWord.sendCmd op
  | delay => exact Laws.EncodedWord.delay
  | setWindow => exact Laws.EncodedWord.setWindow
  | setPixel => exact Laws.EncodedWord.setPixel
  | setPixels => exact Laws.EncodedWord.setPixels
  | blit => exact Laws.EncodedWord.blit
  | endStream => exact Laws.EncodedWord.endStream
  | drawRect => exact Laws.EncodedWord.drawRect
  | drawHline => exact Laws.EncodedWord.drawHline
  | drawVline => exact Laws.EncodedWord.drawVline
  | drawLine => exact Laws.EncodedWord.drawLine
  | drawCircle => exact Laws.EncodedWord.drawCircle
  | fillCircle => exact Laws.EncodedWord.fillCircle
  | drawGlyph ch => exact Laws.EncodedWord.drawGlyph ch

theorem decode_encode {i : Instr} (h : i.wf = true) : decode (encode i) = some i := by
  simp [decode, (encodedWord i h).2, h]

theorem wf_of_decode {w : Word} {i : Instr} (h : decode w = some i) : i.wf = true := by
  unfold decode at h
  split_ifs at h
  split at h
  next j _ =>
    split_ifs at h with hwf
    cases h
    exact (Bool.and_eq_true_iff.mp hwf).1
  next => cases h

/-- Settles O3: the fields of an encoding name the instruction again, and a decoded instruction has the word's fields. -/
theorem decodeAndEncodeAgree : Obligations.DecodeAndEncodeAgree :=
  ⟨fun _ => decode_encode, fun _ _ h => ⟨encode_of_decode h, wf_of_decode h⟩⟩

/-- Settles O1: each legal word is the encoding of its instruction, and each illegal one breaks a condition of R124. -/
theorem specWordsDecode : Obligations.SpecWordsDecode :=
  ⟨decode_encode (i := .hardReset) rfl, decode_encode (i := .init 3) rfl, decode_encode (i := .setOrientation 1) rfl,
    decode_encode (i := .sendCmd 0x2A) rfl, decode_encode (i := .blit) rfl, decode_encode (i := .endStream) rfl,
    decode_encode (i := .drawLine) rfl, decode_encode (i := .drawGlyph 1) rfl, by decide, by decide, by decide, by decide⟩

/-- The word is OP with SUB shifted above it (R130's form). -/
theorem encode_eq_or (i : Instr) : encode i = (instrOp i).zeroExtend 32 ||| (instrSub i).zeroExtend 32 <<< 8 := by
  have hop : (instrOp i).toNat < 2 ^ 32 := Nat.lt_trans (instrOp i).isLt (by decide)
  have hsub : (instrSub i).toNat < 2 ^ 32 := Nat.lt_trans (instrSub i).isLt (by decide)
  have hshift : (instrSub i).toNat <<< 8 < 2 ^ 32 := by
    have := (instrSub i).isLt
    rw [Nat.shiftLeft_eq]
    omega
  apply BitVec.eq_of_toNat_eq
  simp only [encode, BitVec.toNat_append, BitVec.toNat_or, BitVec.toNat_shiftLeft, BitVec.toNat_setWidth]
  rw [Nat.mod_eq_of_lt hop, Nat.mod_eq_of_lt hsub, Nat.mod_eq_of_lt hshift]
  simp [Nat.or_comm]

/-- Settles O2: the operations with an operand have SUB above OP, the others one number. -/
theorem encodeGivesTheListedWords : Obligations.EncodeGivesTheListedWords :=
  ⟨rfl, fun o => encode_eq_or (.init o), fun o => encode_eq_or (.setOrientation o), fun op => encode_eq_or (.sendCmd op),
    rfl, rfl, rfl, rfl, rfl, rfl, rfl, rfl, rfl, rfl, rfl, rfl, fun ch => encode_eq_or (.drawGlyph ch)⟩

/-! ### The legal words (R121, R123, R124) -/

/-- A word is legal exactly when it is a well-formed instruction's encoding. -/
theorem decode_isSome_iff (w : Word) : (decode w).isSome = true ↔ ∃ i : Instr, i.wf = true ∧ encode i = w := by
  rw [Option.isSome_iff_exists]
  refine exists_congr fun i => ⟨fun h => ⟨wf_of_decode h, encode_of_decode h⟩, ?_⟩
  rintro ⟨hwf, rfl⟩
  exact decode_encode hwf

/-- The OP values whose SUB carries nothing (R121). -/
def plainOps : List Byte := [0x01, 0x05, 0x10, 0x11, 0x12, 0x13, 0x1F, 0x20, 0x21, 0x22, 0x23, 0x24, 0x25]

/-- R124's second and third conditions: the OP is assigned, and SUB has no bit its OP does not read (R121). -/
def LegalFields (op sub : Byte) : Prop :=
  (op ∈ ([0x02, 0x03] : List Byte) ∧ sub.extractLsb' 2 6 = 0) ∨ op ∈ ([0x04, 0x26] : List Byte) ∨
  (op ∈ plainOps ∧ sub = 0)

theorem legalFields_of_wf {i : Instr} (h : i.wf = true) : LegalFields (instrOp i) (instrSub i) := by
  cases i with
  | init sub => exact .inl ⟨by dsimp only [instrOp]; decide, eq_of_beq h⟩
  | setOrientation sub => exact .inl ⟨by dsimp only [instrOp]; decide, eq_of_beq h⟩
  | sendCmd op => exact .inr (.inl (by dsimp only [instrOp]; decide))
  | drawGlyph ch => exact .inr (.inl (by dsimp only [instrOp]; decide))
  | _ => exact .inr (.inr (by decide))

/-- The instructions that carry no operand: their words are their OP values. -/
def plainInstrs : List Instr :=
  [.hardReset, .delay, .setWindow, .setPixel, .setPixels, .blit, .endStream, .drawRect, .drawHline, .drawVline, .drawLine,
   .drawCircle, .fillCircle]

theorem plainInstrs_map_instrOp : plainInstrs.map instrOp = plainOps := rfl

theorem exists_instr_of_legalFields {op sub : Byte} (h : LegalFields op sub) :
    ∃ i : Instr, i.wf = true ∧ instrOp i = op ∧ instrSub i = sub := by
  rcases h with ⟨hop, hsub⟩ | hop | ⟨hop, rfl⟩
  · rw [List.mem_pair] at hop
    rcases hop with rfl | rfl
    · exact ⟨.init sub, beq_of_eq hsub, rfl, rfl⟩
    · exact ⟨.setOrientation sub, beq_of_eq hsub, rfl, rfl⟩
  · rw [List.mem_pair] at hop
    rcases hop with rfl | rfl
    · exact ⟨.sendCmd sub, rfl, rfl, rfl⟩
    · exact ⟨.drawGlyph sub, rfl, rfl, rfl⟩
  · obtain ⟨i, hi, rfl⟩ := List.mem_map.mp (plainInstrs_map_instrOp ▸ hop)
    have hplain : ∀ j ∈ plainInstrs, j.wf = true ∧ instrSub j = 0 := by decide
    exact ⟨i, (hplain i hi).1, rfl, (hplain i hi).2⟩

theorem decode_isSome_iff_fields (w : Word) :
    (decode w).isSome = true ↔ wordRsv w = 0 ∧ LegalFields (wordOp w) (wordSub w) := by
  rw [decode_isSome_iff]
  constructor
  · rintro ⟨i, hwf, rfl⟩
    simpa using legalFields_of_wf hwf
  · rintro ⟨hrsv, hlegal⟩
    obtain ⟨i, hwf, hop, hsub⟩ := exists_instr_of_legalFields hlegal
    exact ⟨i, hwf, (encode_eq_iff i w).mpr ⟨hrsv, hsub, hop⟩⟩

/-- What a row's mask leaves free: SUB[1:0] for INIT and SET_ORIENTATION, SUB for SEND_CMD and DRAW_GLYPH, else nothing. -/
theorem opcodeTable_fields : ∀ row ∈ opcodeTable,
    (wordRsv row.mask = BitVec.allOnes 16 ∧ wordRsv row.pattern = 0) ∧ (wordOp row.mask = BitVec.allOnes 8 ∧ wordSub row.pattern = 0) ∧
    ((wordOp row.pattern ∈ ([0x02, 0x03] : List Byte) ∧ wordSub row.mask = 0xFC) ∨
     wordOp row.pattern ∈ ([0x04, 0x26] : List Byte) ∨
     (wordOp row.pattern ∈ plainOps ∧ wordSub row.mask = BitVec.allOnes 8)) := by
  decide

/-- 0xFC masks SUB[7:2]. -/
theorem high_eq_zero_of_masked {sub : Byte} (h : sub &&& 0xFC = 0) : sub.extractLsb' 2 6 = 0 := by
  have hand := congrArg (BitVec.extractLsb' 2 6) h
  rw [BitVec.extractLsb'_and, show (0xFC : Byte).extractLsb' 2 6 = BitVec.allOnes 6 by decide, BitVec.and_allOnes] at hand
  exact hand.trans (by decide)

theorem legalFields_of_row {w : Word} {row : OpcodeRow} (hrow : row ∈ opcodeTable) (h : w &&& row.mask = row.pattern) :
    wordRsv w = 0 ∧ LegalFields (wordOp w) (wordSub w) := by
  obtain ⟨hrsv, hsub, hop⟩ := fields_of_masked h
  obtain ⟨⟨hmrsv, hprsv⟩, ⟨hmop, hpsub⟩, hkind⟩ := opcodeTable_fields row hrow
  rw [hmrsv, BitVec.and_allOnes, hprsv] at hrsv
  rw [hmop, BitVec.and_allOnes] at hop
  rw [hpsub] at hsub
  rw [hop]
  refine ⟨hrsv, hkind.imp ?_ (.imp_right ?_)⟩
  · rintro ⟨hmem, hmask⟩
    exact ⟨hmem, high_eq_zero_of_masked (hmask ▸ hsub)⟩
  · rintro ⟨hmem, hmask⟩
    exact ⟨hmem, by rwa [hmask, BitVec.and_allOnes] at hsub⟩

theorem decode_isSome_iff_row (w : Word) : (decode w).isSome = true ↔ ∃ row ∈ opcodeTable, w &&& row.mask = row.pattern := by
  constructor
  · rw [decode_isSome_iff]
    rintro ⟨i, hwf, rfl⟩
    exact (encodedWord i hwf).1
  · rintro ⟨row, hrow, h⟩
    exact (decode_isSome_iff_fields w).mpr (legalFields_of_row hrow h)

/-- Settles O4: both sides are R124's conditions on the fields, since a row's mask keeps just the bits they speak of. -/
theorem legalWordsAreTheTableRows : Obligations.LegalWordsAreTheTableRows := fun w =>
  ⟨wordSub_high w ▸ decode_isSome_iff_fields w, decode_isSome_iff_row w⟩

end Sys2Proof.Machine
end

section
/-! PROOFS. Rejections that no argument check decides: illegal words (O6), and the errors ILLEGAL_OP and NOT_READY (O8). -/

namespace Sys2Proof.Machine

theorem presentCommand_of_illegal {w : Word} (h : ∀ row ∈ opcodeTable, w &&& row.mask ≠ row.pattern) (s : State) :
    presentCommand w s = .next (startIllegal s) := by
  have hnone : decode w = none := by
    rw [← Option.not_isSome_iff_eq_none, decode_isSome_iff_row]
    rintro ⟨row, hrow, hmatch⟩
    exact h row hrow hmatch
  rw [presentCommand, hnone]

theorem startIllegal_dropped {s : State} (h : s.seq.phase = .run ∨ s.seq.stream ≠ .none) : startIllegal s = drop s := by
  rw [startIllegal]
  rcases h with h | h <;> simp [h]

theorem startIllegal_rejected {s : State} (h : s.accepting) : startIllegal s = reject .illegalOp s := by
  rw [startIllegal, if_neg h.1, if_neg (not_not_intro h.2)]

/-- Settles O6: the word decodes to nothing, so the step evaluates the illegal word. -/
theorem illegalWordsAreRejectedAlike : Obligations.IllegalWordsAreRejectedAlike := by
  intro s w rest hin hillegal
  have hstep : step s = .next (startIllegal (s.setInputs rest)) :=
    (step_command s w rest hin).trans (presentCommand_of_illegal hillegal _)
  exact ⟨fun h => hstep.trans (congrArg _ (startIllegal_dropped (s := s.setInputs rest) h)),
    fun h => hstep.trans (congrArg _ (startIllegal_rejected (s := s.setInputs rest) h))⟩

/-- An ill-formed instruction is rejected with ILLEGAL_OP, like its illegal word (R124). -/
theorem exec_illFormed {i : Instr} {s : State} (h : s.accepting) (hne : i ≠ .endStream) (hwf : i.wf = false) :
    exec i s = .next { s with err := .illegalOp } := by
  obtain ⟨o, ho, -, -, hlegal⟩ := exec_is_start i s hne
  rw [ho, start_illegal o s h.1 h.2 (hlegal.trans hwf)]
  rfl

/-- A SUB of 4 or more has a bit of SUB[7:2] set. -/
theorem high_beq_zero_of_le {sub : Byte} (h : 4 ≤ sub.toNat) : (sub.extractLsb' 2 6 == 0) = false := by
  rw [beq_eq_false_iff_ne]
  intro h0
  have hlt := sub.isLt
  have hnat : sub.toNat >>> 2 % 2 ^ 6 = 0 := (BitVec.extractLsb'_toNat 2 6 sub).symm.trans (congrArg BitVec.toNat h0)
  omega

/-- Each meaning but END_STREAM's evaluates an operation; only HARD_RESET's, INIT's and DELAY's are valid in UNINIT (R283). -/
theorem exec_is_start_needing_ready (i : Instr) (s : State) (hhard : i ≠ .hardReset) (hinit : ∀ sub, i ≠ .init sub)
    (hdelay : i ≠ .delay) (hend : i ≠ .endStream) :
    ∃ o : Operation, exec i s = .next (start o s) ∧ o.legal = i.wf ∧ o.inUninit = false := by
  cases i with
  | hardReset => exact absurd rfl hhard
  | init sub => exact absurd rfl (hinit sub)
  | delay => exact absurd rfl hdelay
  | endStream => exact absurd rfl hend
  | _ => exact ⟨_, rfl, rfl, rfl⟩

/-- Settles O8: an ill-formed INIT or SET_ORIENTATION is an illegal operation, and one that needs READY is rejected in UNINIT. -/
theorem rejectionsBeforeTheChecks : Obligations.RejectionsBeforeTheChecks := by
  refine ⟨fun sub s h hsub => ?_, fun i s hwf h hsession hhard hinit hdelay hend => ?_⟩
  · have hhigh := high_beq_zero_of_le hsub
    exact ⟨exec_illFormed h nofun hhigh, exec_illFormed h nofun hhigh⟩
  · obtain ⟨o, ho, hlegal, huninit⟩ := exec_is_start_needing_ready i s hhard hinit hdelay hend
    rw [ho, start_notReady o s h.1 h.2 (hlegal.trans hwf) hsession huninit]
    rfl

end Sys2Proof.Machine
end

section
/-! PROOFS. The controller session operations: what each starts (O10 to O14), and its run from the command word to its end (O28). -/

namespace Sys2Proof.Machine

/-! ### Orientation codes (R16, R121) -/

section
variable {sub : Byte} (h : sub.toNat < 4)
include h

/-- A SUB below 4 has no bit of SUB[7:2] set. -/
theorem high_beq_zero_of_lt : (sub.extractLsb' 2 6 == 0) = true := by
  rw [beq_iff_eq]
  apply BitVec.eq_of_toNat_eq
  rw [BitVec.extractLsb'_toNat, Nat.shiftRight_eq_div_pow, Nat.div_eq_of_lt h]
  rfl

theorem code_toNat : (sub.extractLsb' 0 2).toNat = sub.toNat := by
  rw [BitVec.extractLsb'_toNat, Nat.shiftRight_zero, Nat.mod_eq_of_lt h]

/-- The mode byte of a code, read off the whole SUB byte. -/
theorem orientByte_code (c : Config) : orientByte c (sub.extractLsb' 0 2) =
    if sub = 0 then c.orientByte0 else if sub = 1 then c.orientByte1 else if sub = 2 then c.orientByte2 else c.orientByte3 := by
  simp only [orientByte, ← BitVec.toNat_inj, code_toNat h]
  rfl

end

/-! ### What each operation starts -/

/-- A word accepted with nothing owed ends within the access: the next state whole (R272 step 6, R275 case (d)). -/
theorem start_endedAtOnce (o : Operation) (s : State) (h : s.accepting) (hlegal : o.legal = true)
    (hsession : s.session = .ready ∨ o.inUninit = true) (hchecks : o.checks = true) (htodo : o.todo = [])
    (hnext : o.next = .finish) (hinit : o.op ≠ 0x02) (horient : o.op ≠ 0x03) :
    start o s = State.endedAtOnce { s with session := if o.unready then .uninit else s.session } o.op o.sub o.columns := by
  obtain ⟨hp, hs⟩ := h
  rw [start_endsAtOnce o s hp hs hlegal hsession hchecks htodo, endOperation_without_completion _ hinit horient]
  simp [accept, acceptSeq, State.setSession, State.setErr, State.setSeq, State.endedAtOnce, State.operands, hs, htodo, hnext]

theorem hardResetTxns_pin {c : Config} (hpin : c.hasResetPin = true) : hardResetTxns c =
    [.pin true, .delay c.tRst, .pin false, .delay c.tRst, .pin true, .delay c.tRst] := if_pos hpin

theorem hardResetTxns_no_pin {c : Config} (hpin : c.hasResetPin = false) : hardResetTxns c = [] := by
  rw [hardResetTxns, if_neg (by simp [hpin])]

/-- A hard reset puts nothing on the wire (R151). -/
theorem hardResetTxns_pairs (c : Config) : ∀ x ∈ hardResetTxns c, x.pairs = [] := by
  unfold hardResetTxns
  split <;> simp [Txn.pairs]

section
variable {s : State} (h : s.accepting)
include h

theorem exec_hardReset_pin (hpin : s.cfg.hasResetPin = true) :
    exec .hardReset s = .next (State.startedWith { s with session := .uninit } 0x01 0 (hardResetTxns s.cfg) .finish) :=
  congrArg Host.Outcome.next (start_startedWith _ s h rfl (.inr rfl) rfl (List.ne_nil_of_mem (pin_mem_hardResetTxns hpin)))

theorem exec_hardReset_no_pin (hpin : s.cfg.hasResetPin = false) :
    exec .hardReset s = .next (State.endedAtOnce { s with session := .uninit } 0x01 0) :=
  congrArg Host.Outcome.next (start_endedAtOnce _ s h rfl (.inr rfl) rfl (hardResetTxns_no_pin hpin) rfl nofun nofun)

theorem exec_init {sub : Byte} (hsub : sub.toNat < 4) :
    exec (.init sub) s = .next (s.startedWith 0x02 sub (initTxns s.cfg (sub.extractLsb' 0 2)) .finish) :=
  congrArg Host.Outcome.next (start_startedWith _ s h (high_beq_zero_of_lt hsub) (.inr rfl) rfl nofun)

theorem exec_setOrientation (hready : s.session = .ready) {sub : Byte} (hsub : sub.toNat < 4) :
    exec (.setOrientation sub) s = .next (s.startedWith 0x03 sub (orientationTxns s.cfg (sub.extractLsb' 0 2)) .finish) :=
  congrArg Host.Outcome.next (start_startedWith _ s h (high_beq_zero_of_lt hsub) (.inl hready) rfl nofun)

theorem exec_sendCmd (hready : s.session = .ready) (op : Byte) : exec (.sendCmd op) s =
    .next (s.startedWith 0x04 op [.cmd op] (if s.arg2.extractLsb' 0 16 = 0 then .finish else .openStream)) :=
  congrArg Host.Outcome.next (start_startedWith _ s h rfl (.inl hready) rfl nofun)

theorem exec_delay : exec .delay s = .next (s.startedWith 0x05 0 [.delay s.arg2] .finish) :=
  congrArg Host.Outcome.next (start_startedWith _ s h rfl (.inr rfl) rfl nofun)

end

/-- Settles O10: with a reset pin the six transactions are owed, without one there is nothing to wait for. -/
theorem hardResetStarts : Obligations.HardResetStarts := by
  intro s h
  refine ⟨fun hpin => ?_, exec_hardReset_no_pin h⟩
  rw [exec_hardReset_pin h hpin, hardResetTxns_pin hpin]

/-- Settles O11: the code below 4 is legal, and its mode byte is the code's. -/
theorem initStarts : Obligations.InitStarts := by
  intro s sub h hsub
  rw [exec_init h hsub, initTxns, orientByte_code hsub]

/-- Settles O12: in READY the code below 4 is legal, as for INIT. -/
theorem setOrientationStarts : Obligations.SetOrientationStarts := by
  intro s sub h hready hsub
  rw [exec_setOrientation h hready hsub, orientationTxns, orientByte_code hsub]

/-- Settles O13: the count that decides what follows is the low half of ARG2. -/
theorem sendCmdStarts : Obligations.SendCmdStarts := by
  intro s op h hready
  rw [exec_sendCmd h hready]
  exact ⟨fun hcount => by rw [if_pos hcount], fun hcount => by rw [if_neg hcount]⟩

/-- Settles O14: DELAY has no check and is valid in either session state. -/
theorem delayStarts : Obligations.DelayStarts := fun _ h => exec_delay h

/-! ### From the command word to the end -/

/-- The state in which an operation accepted in `s` ends with NONE, its transactions `todo` all answered OK (R275 case (d)). -/
def State.ranThrough (s : State) (op sub : Byte) (todo : List Txn) (rest : List Input) : State :=
  { s with
    inputs := rest
    history := s.history ++ okEvents todo
    err := .none
    session := if op = 0x02 then .ready else s.session
    orient := if op = 0x02 ∨ op = 0x03 then sub.extractLsb' 0 2 else s.orient
    seq := { phase := .idle, op := op, sub := sub, args := s.operands, stream := .none, remaining := 0,
             next := .finish, buf := [], todo := [], columns := [] } }

/-- What an operation run through put on the wire. -/
theorem ranThrough_wire (s : State) (op sub : Byte) (todo : List Txn) (rest : List Input) :
    (s.ranThrough op sub todo rest).wire = s.wire ++ todo.flatMap Txn.pairs := by
  rw [State.wire, State.ranThrough, wireOf_append, wireOf_okEvents]
  rfl

/-- A command word whose operation starts with `todo` owed, then the answers, all OK: the word's step, then O26's run. -/
theorem command_runsThrough {s u : State} {i : Instr} {op sub : Byte} {todo : List Txn} {answers : List Answer} {rest : List Input}
    (hwf : i.wf = true) (hin : s.inputs = .hostWrite 4 0x00 (encode i) :: (answerInputs answers ++ rest))
    (hexec : exec i (s.setInputs (answerInputs answers ++ rest)) = .next (u.startedWith op sub todo .finish))
    (hu : u.inputs = answerInputs answers ++ rest) (hne : todo ≠ []) (hlen : answers.length = todo.length)
    (hok : ∀ a ∈ answers, a.response = .ok) :
    runSteps (answers.length + 1) s = .next (u.ranThrough op sub todo rest) := by
  have hstep : step s = .next (u.startedWith op sub todo .finish) :=
    (stepRunsTheDecodedCommand s _ i _ hin (decode_encode hwf)).trans hexec
  rw [runSteps_next _ _ _ hstep]
  exact operationRunsToCompletion (u.startedWith op sub todo .finish) answers rest rfl hne rfl rfl rfl hlen hok hu

theorem initTxns_length (c : Config) (o : BitVec 2) : (initTxns c o).length = if c.invertOn = true then 13 else 12 := by
  cases h : c.invertOn <;> simp [initTxns, h]

/-- Settles O28: each word's operation runs through, and what it leaves is read off the state it ends in. -/
theorem sessionOperationsRunThrough : Obligations.SessionOperationsRunThrough := by
  intro s sub answers rest h hsub hok
  have h' : (s.setInputs (answerInputs answers ++ rest)).accepting := h
  refine ⟨fun hpin hlen hin => ?_, fun hlen hin => ?_, fun hready hlen hin => ?_, fun hlen hin => ?_⟩
  · have hrun := command_runsThrough (i := .hardReset) rfl hin (exec_hardReset_pin h' hpin) rfl
      (List.ne_nil_of_mem (pin_mem_hardResetTxns hpin)) (hlen.trans (congrArg List.length (hardResetTxns_pin hpin)).symm) hok
    rw [hlen] at hrun
    refine ⟨_, hrun, rfl, rfl, rfl, rfl, ?_, ?_⟩
    · rw [ranThrough_wire, List.flatMap_eq_nil_iff.mpr (hardResetTxns_pairs _), List.append_nil]
      rfl
    · exact congrArg (s.history ++ okEvents ·) (hardResetTxns_pin hpin)
  · have hrun := command_runsThrough (i := .init sub) (high_beq_zero_of_lt hsub) hin (exec_init h' hsub) rfl nofun
      (hlen.trans (initTxns_length _ _).symm) hok
    exact ⟨_, hrun, rfl, code_toNat hsub, rfl, rfl⟩
  · have hrun := command_runsThrough (i := .setOrientation sub) (high_beq_zero_of_lt hsub) hin
      (exec_setOrientation h' hready hsub) rfl nofun hlen hok
    rw [hlen] at hrun
    exact ⟨_, _, hrun, hready, code_toNat hsub, rfl, rfl, ranThrough_wire _ _ _ _ _, orientWord_modeByte _⟩
  · have hrun := command_runsThrough (i := .delay) rfl hin (exec_delay h') rfl nofun hlen hok
    rw [hlen] at hrun
    exact ⟨_, hrun, rfl, rfl, rfl, rfl, rfl⟩

end Sys2Proof.Machine
end

section
/-! PROOFS. The opcodes an accepted operation sends (O40). -/

namespace Sys2Proof.Machine

/-! ### Drawing (R161, R182, R188) -/

/-- The list holds data and the opcodes CASET, RASET and RAMWR only. -/
def DrawsOnly (c : Config) (l : List Txn) : Prop :=
  ∀ x ∈ l, (∃ b, x = .data b) ∨ x = .cmd c.opCaset ∨ x = .cmd c.opRaset ∨ x = .cmd c.opRamwr

section
variable {c : Config}

theorem DrawsOnly.append {l m : List Txn} (hl : DrawsOnly c l) (hm : DrawsOnly c m) : DrawsOnly c (l ++ m) :=
  fun x hx => (List.mem_append.mp hx).elim (hl x) (hm x)

theorem DrawsOnly.flatMap {α : Type} (l : List α) {f : α → List Txn} (h : ∀ x, DrawsOnly c (f x)) : DrawsOnly c (l.flatMap f) := by
  intro x hx
  obtain ⟨y, -, hy⟩ := List.mem_flatMap.mp hx
  exact h y x hy

variable {a : Operands} {x0 y0 x1 y1 : Nat}

theorem drawsOnly_winAt : DrawsOnly c (winAt c a x0 y0 x1 y1) := by simp [DrawsOnly, winAt, win]

theorem drawsOnly_openRect : DrawsOnly c (openRect c a x0 y0 x1 y1) := drawsOnly_winAt.append (by simp [DrawsOnly])

theorem drawsOnly_fill {color : Word} {n : Nat} : DrawsOnly c (fill c color n) := fun x hx => .inl (chunks_data c _ x hx)

theorem drawsOnly_rect : DrawsOnly c (rect c a x0 y0 x1 y1) := drawsOnly_openRect.append drawsOnly_fill

theorem drawsOnly_plot {x y : Nat} : DrawsOnly c (plot c a x y) := drawsOnly_openRect.append drawsOnly_fill

theorem drawsOnly_plotAll (l : List (Nat × Nat)) : DrawsOnly c (plotAll c a l) := .flatMap l fun _ => drawsOnly_plot

theorem drawsOnly_lineTxns : DrawsOnly c (lineTxns c a) := by
  unfold lineTxns
  split_ifs
  · exact drawsOnly_rect
  · exact drawsOnly_rect
  · exact drawsOnly_plotAll _

theorem drawsOnly_discTxns : DrawsOnly c (discTxns c a) := .flatMap _ fun _ => drawsOnly_rect

end

/-- A window, streamer or drawing operation owes a list of windows and pixels. -/
theorem exec_is_drawing_start {i : Instr} (s : State)
    (hi : i ∈ ([.setWindow, .setPixel, .setPixels, .blit, .drawRect, .drawHline, .drawVline, .drawLine, .drawCircle, .fillCircle] : List Instr) ∨
      ∃ ch, i = .drawGlyph ch) :
    ∃ o : Operation, exec i s = .next (start o s) ∧ DrawsOnly s.cfg o.todo := by
  cases i with
  | setWindow => exact ⟨_, rfl, drawsOnly_winAt⟩
  | setPixel => exact ⟨_, rfl, drawsOnly_plot⟩
  | setPixels => exact ⟨_, rfl, drawsOnly_openRect⟩
  | blit => exact ⟨_, rfl, drawsOnly_openRect⟩
  | drawRect => exact ⟨_, rfl, drawsOnly_rect⟩
  | drawHline => exact ⟨_, rfl, drawsOnly_rect⟩
  | drawVline => exact ⟨_, rfl, drawsOnly_rect⟩
  | drawLine => exact ⟨_, rfl, drawsOnly_lineTxns⟩
  | drawCircle => exact ⟨_, rfl, drawsOnly_plotAll _⟩
  | fillCircle => exact ⟨_, rfl, drawsOnly_discTxns⟩
  | drawGlyph ch => exact ⟨_, rfl, drawsOnly_plotAll _⟩
  | _ => simp at hi

/-! ### Session operations (R153, R156) -/

theorem opcode_of_mem_initTxns {c : Config} {o : BitVec 2} {b : Byte} (hb : Txn.cmd b ∈ initTxns c o) :
    b ∈ [c.opSwreset, c.opSlpout, c.opColmod, c.opMadctl, c.opInvon, c.opNoron, c.opDispon] := by
  cases h : c.invertOn
  all_goals
    simp [initTxns, h] at hb ⊢
    tauto

theorem opcode_of_mem_orientationTxns {c : Config} {o : BitVec 2} {b : Byte} (hb : Txn.cmd b ∈ orientationTxns c o) :
    b = c.opMadctl := by simpa [orientationTxns] using hb

/-- Settles O40: a running operation owes its rule's transactions, and each rule's list holds only its own opcodes. -/
theorem operationsSendOnlyTheirOpcodes : Obligations.OperationsSendOnlyTheirOpcodes := by
  intro i s t h hexec hrun
  have htodo : ∀ o, exec i s = .next (start o s) → t.seq.todo = o.todo := by
    intro o ho
    cases hexec.symm.trans ho
    exact (start_accepted h hrun).2
  refine ⟨fun hi => ?_, ?_, ?_, ?_, ?_⟩
  · obtain ⟨o, ho, hdraws⟩ := exec_is_drawing_start s hi
    exact htodo o ho ▸ hdraws
  · rintro (rfl | rfl) x hx
    · rw [htodo _ rfl] at hx
      exact hardResetTxns_pairs _ x hx
    · rw [htodo _ rfl, List.mem_singleton] at hx
      rw [hx]
      rfl
  · rintro ⟨sub, rfl⟩ b hb
    exact opcode_of_mem_initTxns (htodo _ rfl ▸ hb)
  · rintro ⟨sub, rfl⟩ b hb
    exact opcode_of_mem_orientationTxns (htodo _ rfl ▸ hb)
  · rintro op rfl
    exact htodo _ rfl

end Sys2Proof.Machine
end

section
/-! PROOFS. The bytes of windows and colours (O49); what the window and streamer operations start (O15, O16); the arguments
that each operation's checks reject (O9). -/

namespace Sys2Proof.Machine

/-! ### Bytes, most significant first (R25) -/

theorem be16_toNat (w : Word) : be16 w.toNat = [w.extractLsb' 8 8, w.extractLsb' 0 8] := by
  have hhigh : BitVec.ofNat 8 (w.toNat / 256) = w.extractLsb' 8 8 := by
    apply BitVec.eq_of_toNat_eq
    rw [BitVec.toNat_ofNat, BitVec.extractLsb'_toNat, Nat.shiftRight_eq_div_pow]
  have hlow : BitVec.ofNat 8 w.toNat = w.extractLsb' 0 8 := by
    apply BitVec.eq_of_toNat_eq
    rw [BitVec.toNat_ofNat, BitVec.extractLsb'_toNat, Nat.shiftRight_zero]
  rw [be16, hhigh, hlow]

/-- Settles O49: each coordinate is two bytes of its word, and the colour mode selects how many bytes the colour has. -/
theorem windowAndColourBytes : Obligations.WindowAndColourBytes := by
  intro c xs ys xe ye color _ _ _ _
  refine ⟨?_, fun hmode => ?_, fun hmode => ?_⟩
  · simp only [win, be16_toNat, List.cons_append, List.nil_append]
  · rw [pix, hmode]
  · rw [pix, hmode]

/-! ### The checks of SET_PIXEL, DRAW_HLINE and DRAW_VLINE (R190, R221, R222) -/

section
variable (a : Operands)

/-- SET_PIXEL's checks (R190). -/
theorem pixelOk_iff : (colOk a a.x0.toNat && rowOk a a.y0.toNat) = true ↔
    a.x0.toNat + a.offx.toNat ≤ 0xFFFF ∧ a.y0.toNat + a.offy.toNat ≤ 0xFFFF := by
  simp only [Bool.and_eq_true, colOk_iff, rowOk_iff]

/-- DRAW_HLINE's checks (R221). -/
theorem hlineOk_iff : (decide (a.x0.toNat ≤ a.x1.toNat) && colOk a a.x1.toNat && rowOk a a.y0.toNat) = true ↔
    a.x0.toNat ≤ a.x1.toNat ∧ a.x1.toNat + a.offx.toNat ≤ 0xFFFF ∧ a.y0.toNat + a.offy.toNat ≤ 0xFFFF := by
  simp only [Bool.and_eq_true, decide_eq_true_eq, colOk_iff, rowOk_iff, and_assoc]

/-- DRAW_VLINE's checks (R222). -/
theorem vlineOk_iff : (decide (a.y0.toNat ≤ a.y1.toNat) && colOk a a.x0.toNat && rowOk a a.y1.toNat) = true ↔
    a.y0.toNat ≤ a.y1.toNat ∧ a.x0.toNat + a.offx.toNat ≤ 0xFFFF ∧ a.y1.toNat + a.offy.toNat ≤ 0xFFFF := by
  simp only [Bool.and_eq_true, decide_eq_true_eq, colOk_iff, rowOk_iff, and_assoc]

end

/-! ### What each operation starts -/

section
variable {s : State} (h : s.accepting) (hready : s.session = .ready)
include h hready

theorem exec_setWindow (hchecks : cornersOk s.operands = true) : exec .setWindow s =
    .next (s.startedWith 0x10 0 (winAt s.cfg s.operands s.operands.x0.toNat s.operands.y0.toNat
      s.operands.x1.toNat s.operands.y1.toNat) .finish) :=
  congrArg Host.Outcome.next (start_startedWith _ s h rfl (.inl hready) hchecks nofun)

theorem exec_setPixel
    (hchecks : (colOk s.operands s.operands.x0.toNat && rowOk s.operands s.operands.y0.toNat) = true) : exec .setPixel s =
    .next (s.startedWith 0x11 0 (plot s.cfg s.operands s.operands.x0.toNat s.operands.y0.toNat) .finish) :=
  congrArg Host.Outcome.next (start_startedWith _ s h rfl (.inl hready) hchecks nofun)

theorem exec_setPixels (hchecks : cornersOk s.operands = true) : exec .setPixels s =
    .next (s.startedWith 0x12 0 (openRect s.cfg s.operands s.operands.x0.toNat s.operands.y0.toNat
      s.operands.x1.toNat s.operands.y1.toNat) .openStream) :=
  congrArg Host.Outcome.next (start_startedWith _ s h rfl (.inl hready) hchecks nofun)

theorem exec_blit (hchecks : blitOk s.operands = true) : exec .blit s =
    .next (s.startedWith 0x13 0 (openRect s.cfg s.operands s.operands.x0.toNat s.operands.y0.toNat
      (s.operands.x0.toNat + s.operands.x1.toNat - 1) (s.operands.y0.toNat + s.operands.y1.toNat - 1)) .openStream) :=
  congrArg Host.Outcome.next (start_startedWith _ s h rfl (.inl hready) hchecks nofun)

end

/-- Settles O15: the checks hold, and the lists are the window's and the PLOT's. -/
theorem setWindowAndSetPixelStart : Obligations.SetWindowAndSetPixelStart := by
  intro s h hready a
  refine ⟨fun hx hy hxe hye => ?_, fun hx hy => ?_⟩
  · exact exec_setWindow h hready ((cornersOk_iff a).mpr ⟨hx, hy, hxe, hye⟩)
  · exact exec_setPixel h hready ((pixelOk_iff a).mpr ⟨hx, hy⟩)

/-- Settles O16: the checks hold, and both lists are a window with memory-write. -/
theorem setPixelsAndBlitStart : Obligations.SetPixelsAndBlitStart := by
  intro s h hready a
  refine ⟨fun hx hy hxe hye => ?_, fun hlen hw hh hxe hye => ?_⟩
  · exact exec_setPixels h hready ((cornersOk_iff a).mpr ⟨hx, hy, hxe, hye⟩)
  · exact exec_blit h hready ((blitOk_iff a).mpr ⟨hlen, hw, hh, hxe, hye⟩)

/-! ### Failed checks (R273) -/

/-- A word valid in READY whose checks do not hold is rejected: the next state whole. -/
theorem exec_failedChecks {i : Instr} {o : Operation} {s : State} {P : Prop} (h : s.accepting) (hready : s.session = .ready)
    (hexec : exec i s = .next (start o s)) (hlegal : o.legal = true) (hchecks : o.checks = true ↔ P) (hfails : ¬ P) :
    exec i s = .next { s with err := .invalidInput } := by
  have hfalse : o.checks = false := (Bool.not_eq_true _).mp (hchecks.not.mpr hfails)
  rw [hexec, start_invalid o s h.1 h.2 hlegal (.inl hready) hfalse]
  rfl

/-- Settles O9: the operation's checks are the proposition that fails, which is all R272 looks at after the session. -/
theorem failedChecksAreInvalidInput : Obligations.FailedChecksAreInvalidInput := by
  intro s h hready x0 y0 x1 y1 r offx offy rejected
  refine ⟨fun hn => ⟨?_, ?_, ?_⟩, fun hn => ?_, fun hn => ?_, fun hn => ?_, fun hn => ?_, fun hn => ?_, fun hn => ⟨?_, ?_⟩,
    fun ch hn => ?_⟩
  · exact exec_failedChecks h hready rfl rfl (cornersOk_iff s.operands) hn
  · exact exec_failedChecks h hready rfl rfl (cornersOk_iff s.operands) hn
  · exact exec_failedChecks h hready rfl rfl (cornersOk_iff s.operands) hn
  · exact exec_failedChecks h hready rfl rfl (pixelOk_iff s.operands) hn
  · exact exec_failedChecks h hready rfl rfl (blitOk_iff s.operands) hn
  · exact exec_failedChecks h hready rfl rfl (hlineOk_iff s.operands) hn
  · exact exec_failedChecks h hready rfl rfl (vlineOk_iff s.operands) hn
  · exact exec_failedChecks h hready rfl rfl (lineOk_iff s.operands) hn
  · exact exec_failedChecks h hready rfl rfl (circleOk_iff s.operands) hn
  · exact exec_failedChecks h hready rfl rfl (circleOk_iff s.operands) hn
  · exact exec_failedChecks h hready rfl rfl (glyphOk_iff s.operands) hn

end Sys2Proof.Machine
end

section
/-! PROOFS. A datum of an open stream (R186): it is buffered or fills chunks (O31), or it is the stream's last (O32). -/

namespace Sys2Proof.Machine

/-! ### The pieces of full chunks (R184) -/

/-- The full chunks carry pieces of exactly `B` bytes, which with what is left are the bytes. -/
theorem fullChunks_pieces (c : Config) (l : List Byte) :
    ∃ pieces : List (List Byte), fullChunks c l = pieces.map Txn.data ∧
      (∀ p ∈ pieces, p.length = c.batchBytes) ∧ pieces.flatten ++ leftOver c l = l := by
  have hsizes : ∀ t ∈ fullChunks c l, t = .data t.payload ∧ t.payload.length = c.batchBytes := by
    intro t ht
    obtain ⟨p, rfl, hlen, -⟩ := cutFull_sizes _ _ _ t ht
    exact ⟨rfl, hlen⟩
  refine ⟨(fullChunks c l).map Txn.payload, ?_, ?_, fullChunks_payload c l⟩
  · rw [List.map_map]
    exact (List.map_id _).symm.trans (List.map_congr_left fun t ht => (hsizes t ht).1)
  · exact List.forall_mem_map.mpr fun t ht => (hsizes t ht).2

/-- As many bytes as a chunk fill one. -/
theorem fullChunks_ne_nil {c : Config} {l : List Byte} (hB : 1 ≤ c.batchBytes) (h : c.batchBytes ≤ l.length) :
    fullChunks c l ≠ [] := by
  intro hnil
  have hleft : leftOver c l = l := by simpa [hnil] using fullChunks_payload c l
  have hlt := leftOver_lt c l hB
  rw [hleft] at hlt
  omega

/-! ### A datum that is not the last byte -/

/-- The bytes a DATA write contributes, to a stream that stays open with them (R186, R196). -/
def ContinuesStream (s : State) (w : Word) (bytes : List Byte) : Prop :=
  (s.seq.stream = .pixels ∧ bytes = pix s.cfg w) ∨ (s.seq.stream = .bytes ∧ s.seq.remaining ≠ 1 ∧ bytes = [w.extractLsb' 0 8])

section
variable {s : State} {w : Word} {bytes : List Byte} (h : ContinuesStream s w bytes)
include h

theorem ContinuesStream.stream_ne_none : s.seq.stream ≠ .none := by
  rcases h with ⟨hk, -⟩ | ⟨hk, -⟩ <;> simp [hk]

theorem ContinuesStream.datumBytes_eq : datumBytes s.cfg s.seq.stream w = bytes := by
  rcases h with ⟨hk, rfl⟩ | ⟨hk, -, rfl⟩ <;> rw [hk] <;> rfl

theorem ContinuesStream.not_last (hbytes : s.seq.stream = .bytes) : s.seq.remaining - 1 ≠ 0 := by
  rcases h with ⟨hk, -⟩ | ⟨-, hlast, -⟩
  · cases hk.symm.trans hbytes
  · exact sub_ne_zero.mpr hlast

variable (hp : s.seq.phase ≠ .run) (htodo : s.seq.todo = [])
include hp

/-- The datum is taken; the stream stays open, and the sequencer runs exactly when a chunk is owed. -/
theorem takeDatum_continues : takeDatum w s =
    if (bufferDatum s.cfg s.seq w).todo = [] then s.setSeq (bufferDatum s.cfg s.seq w)
    else s.setSeq { bufferDatum s.cfg s.seq w with phase := .run } := by
  rcases takeDatum_cases w s with ⟨hdrop, -⟩ | ⟨-, -, ⟨hbytes, hzero, -⟩ | ⟨-, ⟨hempty, heq⟩ | ⟨howed, heq⟩⟩⟩
  · exact absurd hdrop (not_or.mpr ⟨hp, h.stream_ne_none⟩)
  · exact absurd hzero (h.not_last hbytes)
  · rw [heq, if_pos hempty]
  · rw [heq, if_neg howed]

include htodo

theorem takeDatum_buffered (hshort : (s.seq.buf ++ bytes).length < s.cfg.batchBytes) : takeDatum w s = s.setSeq { s.seq with
    remaining := if s.seq.stream = .bytes then s.seq.remaining - 1 else s.seq.remaining
    buf := s.seq.buf ++ bytes } := by
  have hq : bufferDatum s.cfg s.seq w = { s.seq with
      remaining := if s.seq.stream = .bytes then s.seq.remaining - 1 else s.seq.remaining
      buf := s.seq.buf ++ bytes } := by
    simp [bufferDatum, h.datumBytes_eq, fullChunks_short _ _ hshort, leftOver_short _ _ hshort]
  rw [takeDatum_continues h hp, hq, if_pos htodo]

theorem takeDatum_fills (hB : 1 ≤ s.cfg.batchBytes) (hfull : s.cfg.batchBytes ≤ (s.seq.buf ++ bytes).length) :
    takeDatum w s = s.setSeq { s.seq with
      remaining := if s.seq.stream = .bytes then s.seq.remaining - 1 else s.seq.remaining
      todo := fullChunks s.cfg (s.seq.buf ++ bytes)
      buf := leftOver s.cfg (s.seq.buf ++ bytes)
      phase := .run } := by
  have howed : (bufferDatum s.cfg s.seq w).todo ≠ [] := by
    simp [bufferDatum, h.datumBytes_eq, htodo, fullChunks_ne_nil hB hfull]
  rw [takeDatum_continues h hp, if_neg howed, bufferDatum, h.datumBytes_eq, htodo]
  rfl

end

/-- Settles O31: the bytes stay buffered while they fill no chunk; otherwise the full chunks are owed and the rest stays. -/
theorem datumIsBufferedOrFillsChunks : Obligations.DatumIsBufferedOrFillsChunks := by
  intro s w rest hwait htodo hin
  let u := s.setInputs rest
  have hp : u.seq.phase ≠ .run := fun hrun => nomatch hwait.symm.trans hrun
  rw [step_datum s w rest hin]
  refine ⟨fun (hk : u.seq.stream = .pixels) hshort => ?_, fun (hk : u.seq.stream = .bytes) hshort hlast => ?_,
    fun bytes h hB hfull => ?_⟩
  · have htake := takeDatum_buffered (s := u) (w := w) (.inl ⟨hk, rfl⟩) hp htodo (List.length_append.trans_lt hshort)
    rw [if_neg (by simp [hk])] at htake
    exact congrArg Host.Outcome.next htake
  · have htake := takeDatum_buffered (s := u) (w := w) (.inr ⟨hk, hlast, rfl⟩) hp htodo (List.length_append.trans_lt hshort)
    rw [if_pos hk] at htake
    exact congrArg Host.Outcome.next htake
  · obtain ⟨pieces, hpieces, hsize, hjoin⟩ := fullChunks_pieces s.cfg (s.seq.buf ++ bytes)
    refine ⟨pieces, leftOver s.cfg (s.seq.buf ++ bytes), ?_, hsize, leftOver_lt _ _ hB, hjoin⟩
    rw [← hpieces]
    exact congrArg Host.Outcome.next (takeDatum_fills (s := u) h hp htodo hB hfull)

/-! ### The last byte (R196) -/

/-- A datum that closes its stream: everything buffered is owed in chunks (R184, R196). -/
theorem closeStream_bufferDatum (c : Config) (q : Seq) (w : Word) : closeStream (bufferDatum c q w) = { q with
    stream := .none
    remaining := if q.stream = .bytes then q.remaining - 1 else q.remaining
    todo := q.todo ++ chunks c (q.buf ++ datumBytes c q.stream w)
    buf := []
    phase := .run } := by
  simp [closeStream, bufferDatum, chunks]

/-- The last byte of a BYTES stream closes it with a transaction owed, so the operation does not end yet (R196). -/
theorem takeDatum_last {w : Word} {s : State} (hp : s.seq.phase ≠ .run) (hk : s.seq.stream = .bytes) (hrem : s.seq.remaining = 1) :
    takeDatum w s = s.setSeq (closeStream (bufferDatum s.cfg s.seq w)) := by
  have howed : (closeStream (bufferDatum s.cfg s.seq w)).todo ≠ [] := by
    rw [closeStream_bufferDatum]
    exact List.append_ne_nil_of_right_ne_nil _ (chunks_ne_nil _ _ (by simp [hk, datumBytes]))
  rw [takeDatum, if_neg (by simp [hp, hk]), if_pos (by simp [hk, hrem]), endIfDrained_owing howed]

/-- Settles O32: with one byte expected none is after the datum, so the stream closes, and its bytes are owed. -/
theorem lastByteClosesTheStream : Obligations.LastByteClosesTheStream := by
  intro s w rest hwait hk hrem hin
  have htake := takeDatum_last (w := w) (s := s.setInputs rest) (by simp [hwait]) hk hrem
  rw [step_datum s w rest hin, htake, closeStream_bufferDatum]
  simp [State.setSeq, State.setInputs, hk, hrem, datumBytes, lowByte]

end Sys2Proof.Machine
end

section
/-! PROOFS. Batching changes no byte (O48). -/

namespace Sys2Proof.Machine

/-! ### The chunks of a byte list (R184) -/

theorem lastChunk_of_ne_nil {l : List Byte} (h : l ≠ []) : lastChunk l = [.data l] := by simp [lastChunk, h]

theorem chunks_payload (c : Config) (l : List Byte) : (chunks c l).flatMap Txn.payload = l := by simp [chunks]

/-- Every chunk but the last has `B` bytes, and the last has 1 to `B`. -/
theorem chunks_sizes {c : Config} {l : List Byte} (hB : 1 ≤ c.batchBytes) {k : Nat} {t : Txn} (ht : (chunks c l)[k]? = some t) :
    ∃ piece, t = .data piece ∧ 1 ≤ piece.length ∧ piece.length ≤ c.batchBytes ∧
      (k + 1 < (chunks c l).length → piece.length = c.batchBytes) := by
  rcases Nat.lt_or_ge k (fullChunks c l).length with hk | hk
  · rw [chunks, List.getElem?_append_left hk] at ht
    obtain ⟨piece, rfl, hlen, hpos⟩ := cutFull_sizes _ _ _ t (List.mem_of_getElem? ht)
    exact ⟨piece, rfl, hlen ▸ hpos, hlen.le, fun _ => hlen⟩
  · rw [chunks, List.getElem?_append_right hk] at ht
    by_cases hleft : leftOver c l = []
    · simp [hleft] at ht
    · obtain ⟨hlast, rfl⟩ : k - (fullChunks c l).length = 0 ∧ Txn.data (leftOver c l) = t := by
        simpa [lastChunk_of_ne_nil hleft, List.getElem?_singleton] using ht
      refine ⟨_, rfl, List.length_pos_iff.mpr hleft, (leftOver_lt c l hB).le, fun hlt => ?_⟩
      rw [chunks, lastChunk_of_ne_nil hleft, List.length_append, List.length_singleton] at hlt
      omega

/-! ### The same bytes under another `B` (R185) -/

/-- The same state with another `B`. -/
def State.withBatch (b : Nat) (s : State) : State := s.setCfg { s.cfg with batchBytes := b }

/-- The two lists put the same pairs on the wire. -/
def SameBytes (l m : List Txn) : Prop := l.flatMap Txn.pairs = m.flatMap Txn.pairs

theorem SameBytes.append {l l' m m' : List Txn} (h : SameBytes l l') (k : SameBytes m m') : SameBytes (l ++ m) (l' ++ m') := by
  rw [SameBytes, List.flatMap_append, List.flatMap_append, h, k]

theorem SameBytes.flatMap {α : Type} (l : List α) {f g : α → List Txn} (h : ∀ x, SameBytes (f x) (g x)) :
    SameBytes (l.flatMap f) (l.flatMap g) := by
  rw [SameBytes, List.flatMap_assoc, List.flatMap_assoc]
  exact List.flatMap_congr fun x _ => h x

section
variable (c : Config) (b : Nat) (a : Operands)

theorem fill_batch (color : Word) (n : Nat) : SameBytes (fill c color n) (fill { c with batchBytes := b } color n) :=
  (chunks_pairs c _).trans (chunks_pairs { c with batchBytes := b } _).symm

theorem rect_batch (x0 y0 x1 y1 : Nat) : SameBytes (rect c a x0 y0 x1 y1) (rect { c with batchBytes := b } a x0 y0 x1 y1) :=
  .append rfl (fill_batch c b _ _)

theorem plotAll_batch (points : List (Nat × Nat)) : SameBytes (plotAll c a points) (plotAll { c with batchBytes := b } a points) :=
  .flatMap points fun _ => .append rfl (fill_batch c b _ _)

theorem lineTxns_batch : SameBytes (lineTxns c a) (lineTxns { c with batchBytes := b } a) := by
  unfold lineTxns
  split_ifs
  · exact rect_batch c b a _ _ _ _
  · exact rect_batch c b a _ _ _ _
  · exact plotAll_batch c b a _

theorem discTxns_batch : SameBytes (discTxns c a) (discTxns { c with batchBytes := b } a) :=
  .flatMap _ fun _ => rect_batch c b a _ _ _ _

end

/-- A word stands for the same operation under another `B`, but for how its bytes are cut. -/
theorem exec_start_withBatch (i : Instr) (s : State) (b : Nat) (hne : i ≠ .endStream) :
    ∃ (o : Operation) (todo : List Txn), exec i s = .next (start o s) ∧
      exec i (s.withBatch b) = .next (start { o with todo := todo } (s.withBatch b)) ∧ SameBytes o.todo todo := by
  cases i with
  | endStream => exact absurd rfl hne
  | setPixel => exact ⟨_, _, rfl, rfl, .append rfl (fill_batch s.cfg b _ _)⟩
  | drawRect => exact ⟨_, _, rfl, rfl, rect_batch s.cfg b _ _ _ _ _⟩
  | drawHline => exact ⟨_, _, rfl, rfl, rect_batch s.cfg b _ _ _ _ _⟩
  | drawVline => exact ⟨_, _, rfl, rfl, rect_batch s.cfg b _ _ _ _ _⟩
  | drawLine => exact ⟨_, _, rfl, rfl, lineTxns_batch s.cfg b _⟩
  | drawCircle => exact ⟨_, _, rfl, rfl, plotAll_batch s.cfg b _ _⟩
  | fillCircle => exact ⟨_, _, rfl, rfl, discTxns_batch s.cfg b _⟩
  | drawGlyph ch => exact ⟨_, _, rfl, rfl, plotAll_batch s.cfg b _ _⟩
  | _ => exact ⟨_, _, rfl, rfl, rfl⟩

/-! ### What a starting word leaves owed -/

/-- The word is accepted (R272 step 6). -/
def Operation.Accepted (o : Operation) (s : State) : Prop :=
  s.accepting ∧ o.legal = true ∧ (s.session = .ready ∨ o.inUninit = true) ∧ o.checks = true

theorem start_owed_accepted {o : Operation} {s : State} (h : o.Accepted s) :
    (start o s).seq.todo = o.todo ∧ (start o s).seq.buf = [] := by
  obtain ⟨⟨hp, hs⟩, hlegal, hsession, hchecks⟩ := h
  by_cases htodo : o.todo = []
  · rw [start_endsAtOnce o s hp hs hlegal hsession hchecks htodo, endOperation_eq]
    exact ⟨rfl, rfl⟩
  · rw [start_accepts o s hp hs hlegal hsession hchecks htodo]
    exact ⟨rfl, rfl⟩

/-- A dropped or rejected word leaves the sequencer as it is (R273, R274). -/
theorem start_seq_refused {o : Operation} {s : State} (h : ¬ o.Accepted s) : (start o s).seq = s.seq := by
  rcases start_cases o s with ⟨-, hstart⟩ | ⟨hp, hs, ⟨e, -, hstart⟩ | ⟨hlegal, hsession, hchecks, -⟩⟩
  · rw [hstart]
    rfl
  · rw [hstart]
    rfl
  · exact absurd ⟨⟨hp, hs⟩, hlegal, hsession, hchecks⟩ h

/-- Both states evaluate the word alike, so they owe the old bytes or the operation's. -/
theorem start_sameBytes (o : Operation) {todo : List Txn} (s : State) (b : Nat) (h : SameBytes o.todo todo) :
    SameBytes (start o s).seq.todo (start { o with todo := todo } (s.withBatch b)).seq.todo ∧
      (start o s).seq.buf = (start { o with todo := todo } (s.withBatch b)).seq.buf := by
  by_cases hacc : o.Accepted s
  · obtain ⟨htodo, hbuf⟩ := start_owed_accepted hacc
    obtain ⟨htodo', hbuf'⟩ := start_owed_accepted (o := { o with todo := todo }) (s := s.withBatch b) hacc
    rw [htodo, htodo', hbuf, hbuf']
    exact ⟨h, rfl⟩
  · rw [start_seq_refused hacc, start_seq_refused (o := { o with todo := todo }) (s := s.withBatch b) hacc]
    exact ⟨rfl, rfl⟩

/-- END_STREAM sends what is buffered whole (R195), so what it leaves to the sequencer depends on the sequencer alone. -/
theorem takeEndStream_seq_congr {s t : State} (h : t.seq = s.seq) : (takeEndStream t).seq = (takeEndStream s).seq := by
  simp [takeEndStream, endIfDrained, endOperation_eq, drop, apply_ite State.seq, h]

/-- Any word leaves the same bytes owed under another `B`, those of transactions and those still buffered. -/
theorem exec_withBatch (i : Instr) (s : State) (b : Nat) : ∃ t u, exec i s = .next t ∧ exec i (s.withBatch b) = .next u ∧
    SameBytes t.seq.todo u.seq.todo ∧ t.seq.buf = u.seq.buf := by
  by_cases hi : i = .endStream
  · subst hi
    have hseq : (takeEndStream (s.withBatch b)).seq = (takeEndStream s).seq := takeEndStream_seq_congr rfl
    exact ⟨_, _, rfl, rfl, hseq ▸ rfl, hseq ▸ rfl⟩
  · obtain ⟨o, todo, hexec, hexec', hsame⟩ := exec_start_withBatch i s b hi
    exact ⟨_, _, hexec, hexec', start_sameBytes o s b hsame⟩

/-- Settles O48: the chunks join to the bytes, and each operation's list under another `B` differs in its chunks alone. -/
theorem batchingChangesNoByte : Obligations.BatchingChangesNoByte := by
  refine ⟨fun c l hB => ⟨chunks_payload c l, fun k t ht => chunks_sizes hB ht, fun b _ => ?_⟩, fun i s b _ _ => ?_⟩
  · rw [chunks_payload, chunks_payload]
  · obtain ⟨t, u, ht, hu, htodo, hbuf⟩ := exec_withBatch i s b
    refine ⟨t, u, ht, hu, htodo, ?_⟩
    rw [State.owedPairs, State.owedPairs, hbuf, htodo]

end Sys2Proof.Machine
end

section
/-! PROOFS. How many transactions the operations owe, and how many of their bytes are commands (O56). -/

namespace Sys2Proof.Machine

/-! ### Chunks and fills (R183, R184) -/

theorem lastChunk_length (l : List Byte) : (lastChunk l).length = if l.length = 0 then 0 else 1 := by
  cases l <;> rfl

/-- The full chunks' bytes and those left are all the bytes. -/
theorem fullChunks_length (c : Config) (l : List Byte) :
    (fullChunks c l).length * c.batchBytes + (leftOver c l).length = l.length := by
  obtain ⟨pieces, hpieces, hsize, hjoin⟩ := fullChunks_pieces c l
  have hflat : pieces.flatten.length = pieces.length * c.batchBytes := by
    rw [List.length_flatten]
    simpa using List.sum_eq_card_nsmul (pieces.map List.length) c.batchBytes (List.forall_mem_map.mpr hsize)
  rw [hpieces, List.length_map, ← hflat, ← List.length_append, hjoin]

/-- CHUNKS(L) has the number of bytes over `B`, rounded up. -/
theorem chunks_length {c : Config} (hB : 1 ≤ c.batchBytes) (l : List Byte) :
    (chunks c l).length = (l.length + c.batchBytes - 1) / c.batchBytes := by
  have hleft := leftOver_lt c l hB
  rw [chunks, List.length_append, lastChunk_length, ← fullChunks_length c l]
  symm
  split
  next hnone =>
    rw [Nat.add_zero]
    exact Nat.div_eq_of_lt_le (by omega) (by rw [Nat.add_mul]; omega)
  next hsome =>
    exact Nat.div_eq_of_lt_le (by rw [Nat.add_mul]; omega) (by rw [Nat.add_mul, Nat.add_mul]; omega)

section
variable {c : Config} (hCB : bytesPerColor c ≤ c.batchBytes)
include hCB

theorem batch_pos_of_fits : 1 ≤ c.batchBytes := (bytesPerColor_pos c).trans_le hCB

theorem fill_length (color : Word) (n : Nat) :
    (fill c color n).length = (n * bytesPerColor c + c.batchBytes - 1) / c.batchBytes := by
  rw [fill, chunks_length (batch_pos_of_fits hCB)]
  simp

/-- A colour word that fits a chunk is one chunk. -/
theorem fill_one_length (color : Word) : (fill c color 1).length = 1 := by
  rw [fill_length hCB]
  have hpos := bytesPerColor_pos c
  exact Nat.div_eq_of_lt_le (by omega) (by omega)

theorem rect_length (a : Operands) (x0 y0 x1 y1 : Nat) : (rect c a x0 y0 x1 y1).length =
    5 + ((x1 - x0 + 1) * (y1 - y0 + 1) * bytesPerColor c + c.batchBytes - 1) / c.batchBytes := by
  rw [rect, List.length_append, fill_length hCB]
  rfl

theorem plotAll_length_six (a : Operands) (points : List (Nat × Nat)) : (plotAll c a points).length = 6 * points.length := by
  rw [plotAll_length, fill_one_length hCB, Nat.mul_comm]

end

/-! ### Command and data bytes -/

/-- How many bytes of the mode the list puts on the wire. -/
def modeCount (m : WireMode) (l : List Txn) : Nat := (l.flatMap Txn.pairs).countP fun p => p.mode == m

theorem modeCount_append (m : WireMode) (l k : List Txn) : modeCount m (l ++ k) = modeCount m l + modeCount m k := by
  rw [modeCount, List.flatMap_append, List.countP_append]
  rfl

theorem fill_modeCount (c : Config) (color : Word) (n : Nat) :
    modeCount .cmd (fill c color n) = 0 ∧ modeCount .data (fill c color n) = n * bytesPerColor c := by
  simp [modeCount, fill, chunks_pairs, List.countP_map, Function.comp_def]

theorem plot_modeCount (c : Config) (a : Operands) (x y : Nat) :
    modeCount .cmd (plot c a x y) = 3 ∧ modeCount .data (plot c a x y) = 8 + bytesPerColor c := by
  obtain ⟨hcmd, hdata⟩ := fill_modeCount c a.color 1
  rw [plot, modeCount_append, modeCount_append, hcmd, hdata, Nat.one_mul]
  exact ⟨rfl, rfl⟩

theorem plotAll_modeCount (c : Config) (a : Operands) (points : List (Nat × Nat)) :
    modeCount .cmd (plotAll c a points) = 3 * points.length := by
  induction points with
  | nil => rfl
  | cons p points ih =>
    rw [plotAll, List.flatMap_cons, modeCount_append, (plot_modeCount c a p.1 p.2).1]
    rw [plotAll] at ih
    rw [ih, List.length_cons]
    omega

/-! ### Lines, circles and discs -/

theorem linePixels_length (m : LineRounding) (x0 y0 x1 y1 : Nat) :
    (linePixels m x0 y0 x1 y1).length = max (absDiff x0 x1) (absDiff y0 y1) + 1 := by
  unfold linePixels
  split
  · rw [List.length_map, List.length_range]
    omega
  · rw [List.length_map, List.length_range]
    omega

/-- A line between different columns and different rows is the general case (R223). -/
theorem lineTxns_general (c : Config) {a : Operands} (hx : a.x0 ≠ a.x1) (hy : a.y0 ≠ a.y1) : lineTxns c a =
    plotAll c a (linePixels c.lineRounding a.x0.toNat a.y0.toNat a.x1.toNat a.y1.toNat) := by
  rw [lineTxns, if_neg hx, if_neg hy]

/-- Eight points for each `x` up to `XE(r)` (R239). -/
theorem circlePoints_length (cx cy r : Nat) : (circlePoints cx cy r).length = 8 * (octantBound r + 1) := by
  simp [circlePoints, octantPairs, octantPoints, List.length_flatMap, Function.comp_def, Nat.mul_comm]

theorem chord_le (r x : Nat) : chord r x ≤ r :=
  Nat.mul_self_le_mul_self_iff.mp ((isqrt_bounds _).1.trans (Nat.sub_le _ _))

/-- A disc is two columns of `2y + 1` pixels for each `x` below the radius (R243). -/
theorem discTxns_length {c : Config} (hCB : bytesPerColor c ≤ c.batchBytes) (a : Operands) (h : a.radius ≤ a.y0.toNat) :
    (discTxns c a).length = ((List.range a.radius).map fun x =>
      2 * (5 + ((2 * chord a.radius x + 1) * bytesPerColor c + c.batchBytes - 1) / c.batchBytes)).sum := by
  rw [discTxns, discColumns, List.flatMap_assoc, List.length_flatMap]
  congr 1
  refine List.map_congr_left fun x _ => ?_
  have hchord := chord_le a.radius x
  have hrows : a.y0.toNat + chord a.radius x - (a.y0.toNat - chord a.radius x) + 1 = 2 * chord a.radius x + 1 := by omega
  simp only [List.flatMap_cons, List.flatMap_nil, List.append_nil, List.length_append, rect_length hCB, hrows, Nat.sub_self,
    Nat.zero_add, Nat.one_mul]
  omega

/-- Each of the two columns of one `x` has at least one chunk, so at least 6 transactions. -/
theorem discTxns_length_ge {c : Config} (hCB : bytesPerColor c ≤ c.batchBytes) (a : Operands) (h : a.radius ≤ a.y0.toNat) :
    12 * a.radius ≤ (discTxns c a).length := by
  have hcolumns : ∀ x ∈ List.range a.radius,
      12 ≤ 2 * (5 + ((2 * chord a.radius x + 1) * bytesPerColor c + c.batchBytes - 1) / c.batchBytes) := by
    intro x _
    have hbytes : 0 < (2 * chord a.radius x + 1) * bytesPerColor c := Nat.mul_pos (Nat.succ_pos _) (bytesPerColor_pos c)
    have hchunk : 0 < ((2 * chord a.radius x + 1) * bytesPerColor c + c.batchBytes - 1) / c.batchBytes :=
      Nat.div_pos (by omega) (batch_pos_of_fits hCB)
    omega
  rw [discTxns_length hCB a h]
  simpa [Nat.mul_comm] using List.card_nsmul_le_sum _ 12 (List.forall_mem_map.mpr hcolumns)

/-- Settles O56: a fill has the number of its bytes over `B`, rounded up, and the other lists have fixed lengths. -/
theorem transactionCounts : Obligations.TransactionCounts := by
  intro c a hCB
  refine ⟨fun x y => ⟨?_, plot_modeCount c a x y⟩, fun x0 y0 x1 y1 => rfl, fun x0 y0 x1 y1 _ _ => rect_length hCB a x0 y0 x1 y1,
    fun hx hy => ⟨?_, ?_⟩, ?_, ?_, fun hr => ⟨discTxns_length hCB a hr, discTxns_length_ge hCB a hr⟩,
    initTxns_length c, ?_⟩
  · rw [plot_length, fill_one_length hCB]
  · rw [lineTxns_general c hx hy, plotAll_length_six hCB, linePixels_length]
  · rw [lineTxns_general c hx hy]
    exact (plotAll_modeCount c a _).trans (congrArg (3 * ·) (linePixels_length ..))
  · rw [circleTxns, plotAll_length_six hCB, circlePoints_length]
    omega
  · refine (plotAll_modeCount c a _).trans ?_
    rw [circlePoints_length]
    omega
  · unfold hardResetTxns
    split <;> rfl

end Sys2Proof.Machine
end

section
/-! PROOFS. The circle: the octant bound without a root (O51), the stepper (O53), and the symmetries (O55). -/

namespace Sys2Proof.Machine

/-! ### The square root and the octant bound (R23, R237, R238) -/

theorem isqrt_eq_sqrt (n : Nat) : isqrt n = Nat.sqrt n := Nat.eq_sqrt.mpr (isqrt_bounds n)

theorem octantBound_eq_sqrt (r : Nat) : octantBound r = (Nat.sqrt (2 * r * r) + 1) / 2 := by
  rw [octantBound, isqrt_eq_sqrt]

theorem chord_eq_sqrt (r x : Nat) : chord r x = Nat.sqrt (r * r - x * x) := isqrt_eq_sqrt _

theorem octantBound_le (r : Nat) : octantBound r ≤ r := by
  have hroot : Nat.sqrt (2 * r * r) ≤ 2 * r :=
    (Nat.sqrt_le_sqrt (Nat.mul_le_mul_left (2 * r) (by omega))).trans_eq (Nat.sqrt_eq (2 * r))
  rw [octantBound_eq_sqrt]
  omega

theorem le_octantBound_iff (r x : Nat) : x ≤ octantBound r ↔ x = 0 ∨ (2 * x - 1) * (2 * x - 1) ≤ 2 * r * r := by
  rw [octantBound_eq_sqrt, ← Nat.le_sqrt]
  omega

/-- As `x` grows `y` does not (R238). -/
theorem chord_antitone (r : Nat) {x x' : Nat} (h : x ≤ x') : chord r x' ≤ chord r x := by
  rw [chord_eq_sqrt, chord_eq_sqrt]
  exact Nat.sqrt_le_sqrt (Nat.sub_le_sub_left (Nat.mul_self_le_mul_self h) _)

/-- Settles O51: `2x - 1` is at most the root exactly when its square is at most `2rr`. -/
theorem octantBoundWithoutRoot : Obligations.OctantBoundWithoutRoot := by
  intro r
  refine ⟨octantBound_le r, rfl, fun x => ?_⟩
  rw [le_octantBound_iff, Nat.pow_two]

/-! ### The stepper (R240) -/

/-- Lowering from a root or above stops at the root. -/
theorem lowerTo_eq_isqrt (lim y : Nat) (h : isqrt lim ≤ y) : lowerTo lim y = isqrt lim := by
  induction y with
  | zero => exact (Nat.le_zero.mp h).symm
  | succ y ih =>
    have hroot : y + 1 ≤ isqrt lim ↔ (y + 1) * (y + 1) ≤ lim := by rw [isqrt_eq_sqrt, Nat.le_sqrt]
    rw [lowerTo]
    split
    next hsquare => exact Nat.le_antisymm (hroot.mpr hsquare) h
    next hsquare => exact ih (by omega)

/-- The stepper from `x`, with `y` not yet below the root and fuel to reach the bound, gives the pairs from `x` on. -/
theorem octantSteps_eq (r fuel x y : Nat) (hx : x ≤ octantBound r) (hfuel : octantBound r < x + fuel) (hy : chord r x ≤ y) :
    octantSteps r fuel x y = (List.range' x (octantBound r - x + 1)).map fun x => (x, chord r x) := by
  induction fuel generalizing x y with
  | zero => omega
  | succ fuel ih =>
    have hlower : lowerTo (r * r - x * x) y = chord r x := lowerTo_eq_isqrt _ y hy
    have hcontinue := le_octantBound_iff r (x + 1)
    rw [octantSteps, hlower, List.range'_succ, List.map_cons]
    congr 1
    split
    next hstop =>
      have hlast : octantBound r - x = 0 := by omega
      rw [hlast]
      rfl
    next hstop =>
      have hnext : x + 1 ≤ octantBound r := hcontinue.mpr (.inr (by omega))
      rw [ih (x + 1) _ hnext (by omega) (chord_antitone r (Nat.le_succ x)), Nat.sub_add_eq, Nat.sub_add_cancel (by omega)]

/-- Settles O53: the stepper starts at `x = 0` with `y = r`, which is no less than the root. -/
theorem circleStepperIsTheRootForm : Obligations.CircleStepperIsTheRootForm := by
  intro r
  have hbound := octantBound_le r
  rw [octantPairsStepped, octantSteps_eq r (r + 2) 0 r (Nat.zero_le _) (by omega) (chord_le r 0), octantPairs, List.range_eq_range',
    Nat.sub_zero]

/-! ### The symmetries (R236, R241) -/

/-- The distances along the axes that R239 pairs up: those of some `x` up to the bound, either way round. -/
def OnOctants (r dx dy : Nat) : Prop :=
  ∃ x ≤ octantBound r, (dx = x ∧ dy = chord r x) ∨ (dx = chord r x ∧ dy = x)

theorem OnOctants.swap {r dx dy : Nat} (h : OnOctants r dx dy) : OnOctants r dy dx := by
  obtain ⟨x, hx, hd⟩ := h
  exact ⟨x, hx, hd.symm.imp And.symm And.symm⟩

theorem OnOctants.le_left {r dx dy : Nat} (h : OnOctants r dx dy) : dx ≤ r := by
  obtain ⟨x, hx, ⟨rfl, -⟩ | ⟨rfl, -⟩⟩ := h
  · exact hx.trans (octantBound_le r)
  · exact chord_le r x

/-- The eight points are those at the two distances from the centre, either way round, where none is cut off at 0. -/
theorem mem_octantPoints_iff {cx cy x y : Nat} (hx : x ≤ cx ∧ x ≤ cy) (hy : y ≤ cx ∧ y ≤ cy) (u v : Nat) :
    (u, v) ∈ octantPoints cx cy x y ↔ (absDiff cx u = x ∧ absDiff cy v = y) ∨ (absDiff cx u = y ∧ absDiff cy v = x) := by
  simp only [octantPoints, List.mem_cons, Prod.mk.injEq, List.not_mem_nil, or_false, absDiff_eq]
  omega

/-- A point is on the circle exactly when its distances from the centre are a pair of R239. -/
theorem mem_circlePoints_iff {cx cy r : Nat} (hcx : r ≤ cx) (hcy : r ≤ cy) (u v : Nat) :
    (u, v) ∈ circlePoints cx cy r ↔ OnOctants r (absDiff cx u) (absDiff cy v) := by
  have hpoints : ∀ x ≤ octantBound r, ((u, v) ∈ octantPoints cx cy x (chord r x) ↔
      (absDiff cx u = x ∧ absDiff cy v = chord r x) ∨ (absDiff cx u = chord r x ∧ absDiff cy v = x)) := by
    intro x hx
    have hxr := hx.trans (octantBound_le r)
    have hyr := chord_le r x
    exact mem_octantPoints_iff (by omega) (by omega) u v
  simp only [circlePoints, octantPairs, List.flatMap_map, List.mem_flatMap, List.mem_range, Nat.lt_succ_iff, OnOctants]
  exact exists_congr fun x => and_congr_right (hpoints x)

/-- `c` and `d` are the ends of an interval with `v` in it: what `v`'s mirror image is from `c`, `v` is from `d`. -/
theorem absDiff_mirror {c d v : Nat} (h : v ≤ c + d) : absDiff c (c + d - v) = absDiff d v := by
  rw [absDiff_eq, absDiff_eq]
  omega

/-- Moving `d` and `v` together so that `d` comes to `c` keeps their distance. -/
theorem absDiff_shift {c d v : Nat} (h : d ≤ c + v) : absDiff c (c + v - d) = absDiff d v := by
  rw [absDiff_eq, absDiff_eq]
  omega

/-- Settles O55: each mirror image has the point's distances from the centre, or has them exchanged. -/
theorem circleIsSymmetric : Obligations.CircleIsSymmetric := by
  intro cx cy r hcx hcy x y hmem
  have hon := (mem_circlePoints_iff hcx hcy x y).mp hmem
  have hdx := hon.le_left
  have hdy := hon.swap.le_left
  rw [absDiff_eq] at hdx hdy
  simp only [mem_circlePoints_iff hcx hcy, Nat.two_mul]
  refine ⟨by omega, by omega, by omega, by omega, ?_, ?_, ?_, ?_⟩
  · rwa [absDiff_mirror (by omega)]
  · rwa [absDiff_mirror (by omega)]
  · rw [absDiff_shift (by omega), absDiff_shift (by omega)]
    exact hon.swap
  · rw [absDiff_mirror (by omega), absDiff_mirror (by omega)]
    exact hon.swap

end Sys2Proof.Machine
end

section
/-! PROOFS. General lines: the stepper (O52), and that a line joins its endpoints without a gap (O54). -/

namespace Sys2Proof.Machine

/-! ### Rounding (R24) -/

theorem rnd_mono (m : LineRounding) {n n' : Nat} (d : Nat) (h : n ≤ n') : rnd m n d ≤ rnd m n' d := by
  cases m with
  | nearest => exact Nat.div_le_div_right (by omega)
  | truncate => exact Nat.div_le_div_right h

theorem rnd_add_self (m : LineRounding) (n : Nat) {d : Nat} (h : 0 < d) : rnd m (n + d) d = rnd m n d + 1 := by
  cases m with
  | nearest => rw [rnd, rnd, Nat.mul_add, Nat.add_right_comm, Nat.add_div_right _ (by omega)]
  | truncate => exact Nat.add_div_right n h

/-- Rounding a quotient `q` with remainder `e` (R233). -/
theorem rnd_quotient (m : LineRounding) (q : Nat) {e d : Nat} (h : e < d) :
    rnd m (q * d + e) d = if m = .nearest ∧ d ≤ 2 * e then q + 1 else q := by
  have hsplit : rnd m (q * d + e) d = q + rnd m e d := by
    induction q with
    | zero => simp
    | succ q ih => rw [Nat.succ_mul, Nat.add_right_comm, rnd_add_self m _ (by omega), ih, Nat.add_right_comm]
  rw [hsplit]
  cases m with
  | nearest =>
    simp only [rnd, true_and]
    split
    next hup => rw [Nat.div_eq_of_lt_le (k := 1) (by omega) (by omega)]
    next hup => rw [Nat.div_eq_of_lt (by omega), Nat.add_zero]
  | truncate => simp [rnd, Nat.div_eq_of_lt h]

/-! ### The stepper (R232) -/

/-- The offsets from `k` on are the rounded ones, when `q` and `e` are `minor * k`'s quotient and remainder. -/
theorem minorOffsets_eq (m : LineRounding) {minor major : Nat} (hle : minor ≤ major) (steps k q e : Nat)
    (hinv : minor * k = q * major + e) (he : e < major) :
    minorOffsets m minor major steps q e = (List.range' k steps).map fun k => rnd m (minor * k) major := by
  induction steps generalizing k q e with
  | zero => rfl
  | succ steps ih =>
    rw [minorOffsets, List.range'_succ, List.map_cons, hinv, rnd_quotient m q he]
    congr 1
    split
    next hcarry => exact ih (k + 1) (q + 1) _ (by rw [Nat.mul_succ, Nat.succ_mul]; omega) (by omega)
    next hcarry => exact ih (k + 1) q _ (by rw [Nat.mul_succ]; omega) (by omega)

/-- The stepper's plots, whatever they make of the two offsets. -/
theorem zipWith_minorOffsets (m : LineRounding) {minor major : Nat} (hle : minor ≤ major) (hpos : 0 < major)
    (f : Nat → Nat → Nat × Nat) :
    List.zipWith f (List.range (major + 1)) (minorOffsets m minor major (major + 1) 0 0) =
      (List.range (major + 1)).map fun k => f k (rnd m (minor * k) major) := by
  rw [minorOffsets_eq m hle (major + 1) 0 0 0 (by simp) hpos, ← List.range_eq_range', List.zipWith_map_right, List.zipWith_self]

theorem absDiff_pos {a b : Nat} (h : a ≠ b) : 0 < absDiff a b := by
  rw [absDiff_eq]
  omega

/-- Settles O52: in either case the stepper carries exactly where the rounded quotient grows. -/
theorem lineStepperIsTheRoundedLine : Obligations.LineStepperIsTheRoundedLine := by
  intro m x0 y0 x1 y1 hx hy
  rw [linePixelsStepped, linePixels]
  split
  next hshallow => exact zipWith_minorOffsets m hshallow.le (absDiff_pos hx) _
  next hsteep => exact zipWith_minorOffsets m (Nat.le_of_not_lt hsteep) (absDiff_pos hy) _

/-! ### The two coordinates of a line (R228, R229) -/

/-- How far the `k`th pixel is from the start along the columns: stepped in the shallow case, rounded in the steep one. -/
def columnOffset (m : LineRounding) (ax ay k : Nat) : Nat := if ay < ax then k else rnd m (ax * k) ay

/-- How far the `k`th pixel is from the start along the rows. -/
def rowOffset (m : LineRounding) (ax ay k : Nat) : Nat := if ay < ax then rnd m (ay * k) ax else k

theorem linePixels_eq_offsets (m : LineRounding) (x0 y0 x1 y1 : Nat) : linePixels m x0 y0 x1 y1 =
    (List.range (max (absDiff x0 x1) (absDiff y0 y1) + 1)).map fun k =>
      (toward x0 x1 (columnOffset m (absDiff x0 x1) (absDiff y0 y1) k),
        toward y0 y1 (rowOffset m (absDiff x0 x1) (absDiff y0 y1) k)) := by
  unfold linePixels columnOffset rowOffset
  split
  next hshallow => rw [Nat.max_eq_left hshallow.le]
  next hsteep => rw [Nat.max_eq_right (Nat.le_of_not_lt hsteep)]

/-- The `k`th pixel, by its offsets from the start. -/
theorem linePixels_pixel {m : LineRounding} {x0 y0 x1 y1 k : Nat} {p : Nat × Nat} (h : (linePixels m x0 y0 x1 y1)[k]? = some p) :
    k ≤ max (absDiff x0 x1) (absDiff y0 y1) ∧
    p = (toward x0 x1 (columnOffset m (absDiff x0 x1) (absDiff y0 y1) k),
      toward y0 y1 (rowOffset m (absDiff x0 x1) (absDiff y0 y1) k)) := by
  rw [linePixels_eq_offsets, List.getElem?_map, Option.map_eq_some_iff] at h
  obtain ⟨j, hj, rfl⟩ := h
  obtain ⟨hlt, hval⟩ := List.getElem?_eq_some_iff.mp hj
  rw [List.getElem_range] at hval
  rw [List.length_range] at hlt
  exact ⟨Nat.le_of_lt_succ hlt, hval ▸ rfl⟩

/-- Offsets that go from 0 to `len` in `n` steps, each of 0 or 1, without passing `len`. -/
structure Walk (n len : Nat) (f : Nat → Nat) : Prop where
  zero : f 0 = 0
  last : f n = len
  step : ∀ k, f k ≤ f (k + 1) ∧ f (k + 1) ≤ f k + 1
  le : ∀ k ≤ n, f k ≤ len

theorem walk_id (n : Nat) : Walk n n id where
  zero := rfl
  last := rfl
  step k := ⟨Nat.le_succ k, Nat.le_refl _⟩
  le _ h := h

/-- One more step adds at most `major` to what is rounded, so at most 1 to the result. -/
theorem walk_rnd (m : LineRounding) {minor major : Nat} (hle : minor ≤ major) (hpos : 0 < major) :
    Walk major minor fun k => rnd m (minor * k) major where
  zero := rnd_zero m major hpos
  last := rnd_self_mul m minor major hpos
  step k := by
    rw [← rnd_add_self m _ hpos]
    exact ⟨rnd_mono m major (Nat.mul_le_mul_left _ (Nat.le_succ k)), rnd_mono m major (Nat.add_le_add_left hle _)⟩
  le k hk := (rnd_mono m major (Nat.mul_le_mul_left minor hk)).trans_eq (rnd_self_mul m minor major hpos)

theorem walk_columnOffset (m : LineRounding) {ax ay : Nat} (hy : 0 < ay) : Walk (max ax ay) ax (columnOffset m ax ay) := by
  unfold columnOffset
  split
  next hshallow =>
    rw [Nat.max_eq_left hshallow.le]
    exact walk_id ax
  next hsteep =>
    rw [Nat.max_eq_right (Nat.le_of_not_lt hsteep)]
    exact walk_rnd m (Nat.le_of_not_lt hsteep) hy

theorem walk_rowOffset (m : LineRounding) {ax ay : Nat} (hx : 0 < ax) : Walk (max ax ay) ay (rowOffset m ax ay) := by
  unfold rowOffset
  split
  next hshallow =>
    rw [Nat.max_eq_left hshallow.le]
    exact walk_rnd m hshallow.le hx
  next hsteep =>
    rw [Nat.max_eq_right (Nat.le_of_not_lt hsteep)]
    exact walk_id ay

/-! ### A walk from one coordinate to another (R234) -/

/-- Two offsets within the distance are as far apart as the coordinates they lead to. -/
theorem absDiff_toward {a b j k : Nat} (hj : j ≤ absDiff a b) (hk : k ≤ absDiff a b) :
    absDiff (toward a b j) (toward a b k) = absDiff j k := by
  simp only [absDiff_eq] at *
  unfold toward
  split <;> omega

theorem Walk.gap_le_one {n len : Nat} {f : Nat → Nat} (h : Walk n len f) (k : Nat) : absDiff (f k) (f (k + 1)) ≤ 1 := by
  have hstep := h.step k
  rw [absDiff_eq]
  omega

/-- Settles O54: each coordinate of a line is a walk over its distance, and the stepped one takes a step at every pixel. -/
theorem lineIsConnected : Obligations.LineIsConnected := by
  intro m x0 y0 x1 y1 hx hy l
  have hcol := walk_columnOffset m (ax := absDiff x0 x1) (absDiff_pos hy)
  have hrow := walk_rowOffset m (ay := absDiff y0 y1) (absDiff_pos hx)
  refine ⟨linePixels_length m x0 y0 x1 y1, ?_, ?_, fun k p q hp hq => ?_, fun p hp => ?_⟩
  · simp [l, linePixels_eq_offsets, List.head?_range, hcol.zero, hrow.zero, toward_zero]
  · simp [l, linePixels_eq_offsets, List.getLast?_range, hcol.last, hrow.last, toward_absDiff]
  · obtain ⟨-, rfl⟩ := linePixels_pixel hp
    obtain ⟨hk, rfl⟩ := linePixels_pixel hq
    simp only [absDiff_toward (hcol.le k (by omega)) (hcol.le (k + 1) hk), absDiff_toward (hrow.le k (by omega)) (hrow.le (k + 1) hk)]
    have hone : absDiff k (k + 1) = 1 := by rw [absDiff_eq]; omega
    refine ⟨hcol.gap_le_one k, hrow.gap_le_one k, fun hshallow => ?_, fun hsteep => ?_⟩
    · rw [columnOffset, columnOffset, if_pos hshallow, if_pos hshallow, hone]
    · rw [rowOffset, rowOffset, if_neg hsteep.not_gt, if_neg hsteep.not_gt, hone]
  · obtain ⟨k, hk⟩ := List.mem_iff_getElem?.mp hp
    obtain ⟨hle, rfl⟩ := linePixels_pixel hk
    obtain ⟨hleft, hright⟩ := toward_between x0 x1 _ (hcol.le k hle)
    obtain ⟨hlow, hhigh⟩ := toward_between y0 y1 _ (hrow.le k hle)
    exact ⟨hleft, hright, hlow, hhigh⟩

end Sys2Proof.Machine
end

section
/-! PROOFS. What the rasterizer operations start (O18 to O23). -/

namespace Sys2Proof.Machine

/-! ### Each operation in READY, by its list -/

section
variable {s : State} (h : s.accepting) (hready : s.session = .ready)
include h hready

theorem exec_drawRect (hchecks : cornersOk s.operands = true) : exec .drawRect s =
    .next (s.startedWith 0x20 0 (rect s.cfg s.operands s.operands.x0.toNat s.operands.y0.toNat
      s.operands.x1.toNat s.operands.y1.toNat) .finish) :=
  congrArg Host.Outcome.next (start_startedWith _ s h rfl (.inl hready) hchecks (rect_ne_nil _ _ _ _ _ _))

theorem exec_drawHline (hchecks : (decide (s.operands.x0.toNat ≤ s.operands.x1.toNat) &&
      colOk s.operands s.operands.x1.toNat && rowOk s.operands s.operands.y0.toNat) = true) : exec .drawHline s =
    .next (s.startedWith 0x21 0 (rect s.cfg s.operands s.operands.x0.toNat s.operands.y0.toNat
      s.operands.x1.toNat s.operands.y0.toNat) .finish) :=
  congrArg Host.Outcome.next (start_startedWith _ s h rfl (.inl hready) hchecks (rect_ne_nil _ _ _ _ _ _))

theorem exec_drawVline (hchecks : (decide (s.operands.y0.toNat ≤ s.operands.y1.toNat) &&
      colOk s.operands s.operands.x0.toNat && rowOk s.operands s.operands.y1.toNat) = true) : exec .drawVline s =
    .next (s.startedWith 0x22 0 (rect s.cfg s.operands s.operands.x0.toNat s.operands.y0.toNat
      s.operands.x0.toNat s.operands.y1.toNat) .finish) :=
  congrArg Host.Outcome.next (start_startedWith _ s h rfl (.inl hready) hchecks (rect_ne_nil _ _ _ _ _ _))

theorem exec_drawLine (hchecks : lineOk s.operands = true) (hne : lineTxns s.cfg s.operands ≠ []) :
    exec .drawLine s = .next (s.startedWith 0x23 0 (lineTxns s.cfg s.operands) .finish) :=
  congrArg Host.Outcome.next (start_startedWith _ s h rfl (.inl hready) hchecks hne)

theorem exec_drawCircle (hchecks : circleOk s.operands = true) (hne : circleTxns s.cfg s.operands ≠ []) :
    exec .drawCircle s = .next (s.startedWith 0x24 0 (circleTxns s.cfg s.operands) .finish) :=
  congrArg Host.Outcome.next (start_startedWith _ s h rfl (.inl hready) hchecks hne)

theorem exec_fillCircle (hchecks : circleOk s.operands = true) (hne : discTxns s.cfg s.operands ≠ []) :
    exec .fillCircle s = .next (s.startedWith 0x25 0 (discTxns s.cfg s.operands) .finish) :=
  congrArg Host.Outcome.next (start_startedWith _ s h rfl (.inl hready) hchecks hne)

theorem exec_fillCircle_nothing (hchecks : circleOk s.operands = true) (hnil : discTxns s.cfg s.operands = []) :
    exec .fillCircle s = .next (s.endedAtOnce 0x25 0) :=
  congrArg Host.Outcome.next (start_endedAtOnce _ s h rfl (.inl hready) hchecks hnil rfl nofun nofun)

variable {ch : Byte}

theorem exec_drawGlyph (hchecks : glyphOk s.operands = true)
    (hne : glyphTxns s.cfg s.operands (glyphColumns s.cfg s.operands.fontId ch) ≠ []) : exec (.drawGlyph ch) s =
    .next (s.startedWith 0x26 ch (glyphTxns s.cfg s.operands (glyphColumns s.cfg s.operands.fontId ch)) .finish
      (glyphColumns s.cfg s.operands.fontId ch)) :=
  congrArg Host.Outcome.next (start_startedWith _ s h rfl (.inl hready) hchecks hne)

theorem exec_drawGlyph_nothing (hchecks : glyphOk s.operands = true)
    (hnil : glyphTxns s.cfg s.operands (glyphColumns s.cfg s.operands.fontId ch) = []) : exec (.drawGlyph ch) s =
    .next (s.endedAtOnce 0x26 ch (glyphColumns s.cfg s.operands.fontId ch)) :=
  congrArg Host.Outcome.next (start_endedAtOnce _ s h rfl (.inl hready) hchecks hnil rfl nofun nofun)

end

/-! ### Rectangles and axis lines (R220 to R222) -/

theorem rect_row (c : Config) (a : Operands) (x0 x1 y : Nat) :
    rect c a x0 y x1 y = openRect c a x0 y x1 y ++ fill c a.color (x1 - x0 + 1) := by simp [rect]

theorem rect_column (c : Config) (a : Operands) (x y0 y1 : Nat) :
    rect c a x y0 x y1 = openRect c a x y0 x y1 ++ fill c a.color (y1 - y0 + 1) := by simp [rect]

/-- Settles O18: the checks hold, and the list is the rectangle's. -/
theorem drawRectStarts : Obligations.DrawRectStarts := by
  intro s h hready a hx hy hxe hye
  exact exec_drawRect h hready ((cornersOk_iff a).mpr ⟨hx, hy, hxe, hye⟩)

/-- Settles O19: a rectangle one pixel high or wide has as many pixels as it is long. -/
theorem axisLinesStart : Obligations.AxisLinesStart := by
  intro s h hready a
  refine ⟨fun hx hxe hy => ?_, fun hy hx hye => ?_⟩
  · rw [exec_drawHline h hready ((hlineOk_iff a).mpr ⟨hx, hxe, hy⟩), rect_row]
    rfl
  · rw [exec_drawVline h hready ((vlineOk_iff a).mpr ⟨hy, hx, hye⟩), rect_column]
    rfl

/-! ### Lines (R223 to R230) -/

theorem plotAll_ne_nil (c : Config) (a : Operands) {points : List (Nat × Nat)} (h : points ≠ []) : plotAll c a points ≠ [] := by
  cases points with
  | nil => exact absurd rfl h
  | cons p points => simp [plotAll, plot_ne_nil]

theorem linePixels_ne_nil (m : LineRounding) (x0 y0 x1 y1 : Nat) : linePixels m x0 y0 x1 y1 ≠ [] :=
  List.ne_nil_of_length_pos (by rw [linePixels_length]; omega)

theorem lineTxns_vertical (c : Config) {a : Operands} (hx : a.x0 = a.x1) : lineTxns c a =
    rect c a a.x0.toNat (min a.y0.toNat a.y1.toNat) a.x0.toNat (max a.y0.toNat a.y1.toNat) := if_pos hx

theorem lineTxns_horizontal (c : Config) {a : Operands} (hx : a.x0 ≠ a.x1) (hy : a.y0 = a.y1) : lineTxns c a =
    rect c a (min a.x0.toNat a.x1.toNat) a.y0.toNat (max a.x0.toNat a.x1.toNat) a.y0.toNat := by
  rw [lineTxns, if_neg hx, if_pos hy]

theorem lineTxns_ne_nil (c : Config) (a : Operands) : lineTxns c a ≠ [] := by
  unfold lineTxns
  split_ifs
  · exact rect_ne_nil _ _ _ _ _ _
  · exact rect_ne_nil _ _ _ _ _ _
  · exact plotAll_ne_nil c a (linePixels_ne_nil _ _ _ _ _)

section
variable (c : Config) (a : Operands) (m : LineRounding) {x0 y0 x1 y1 : Nat}

/-- The PLOTs of R228. -/
theorem plotAll_shallow (h : absDiff y0 y1 < absDiff x0 x1) : plotAll c a (linePixels m x0 y0 x1 y1) =
    (List.range (absDiff x0 x1 + 1)).flatMap fun k =>
      plot c a (toward x0 x1 k) (toward y0 y1 (rnd m (absDiff y0 y1 * k) (absDiff x0 x1))) := by
  rw [linePixels, if_pos h, plotAll, List.flatMap_map]

/-- The PLOTs of R229. -/
theorem plotAll_steep (h : absDiff x0 x1 ≤ absDiff y0 y1) : plotAll c a (linePixels m x0 y0 x1 y1) =
    (List.range (absDiff y0 y1 + 1)).flatMap fun k =>
      plot c a (toward x0 x1 (rnd m (absDiff x0 x1 * k) (absDiff y0 y1))) (toward y0 y1 k) := by
  rw [linePixels, if_neg h.not_gt, plotAll, List.flatMap_map]

end

/-- Settles O20: the four cases of the line's list, with distances, directions and rounding written out. -/
theorem drawLineStarts : Obligations.DrawLineStarts := by
  intro s h hready a c x0 y0 x1 y1 ax ay rounded moved hxe hye
  have hexec : exec .drawLine s = .next (s.startedWith 0x23 0 (lineTxns c a) .finish) :=
    exec_drawLine h hready ((lineOk_iff a).mpr ⟨hxe, hye⟩) (lineTxns_ne_nil c a)
  have hax : absDiff x0 x1 = ax := absDiff_eq x0 x1
  have hay : absDiff y0 y1 = ay := absDiff_eq y0 y1
  rw [hexec]
  refine ⟨fun hx => ?_, fun hx hy => ?_, fun hx hy hshallow => ?_, fun hx hy hsteep => ?_⟩
  · rw [lineTxns_vertical c (BitVec.eq_of_toNat_eq hx), rect_column]
    rfl
  · rw [lineTxns_horizontal c (mt (congrArg BitVec.toNat) hx) (BitVec.eq_of_toNat_eq hy), rect_row]
    rfl
  · rw [lineTxns_general c (mt (congrArg BitVec.toNat) hx) (mt (congrArg BitVec.toNat) hy),
      plotAll_shallow c a _ (x0 := x0) (x1 := x1) (y0 := y0) (y1 := y1) (by rwa [hax, hay])]
    simp only [toward_of_ne _ _ _ hx, toward_of_ne _ _ _ hy, rnd_eq, hax, hay]
    rfl
  · rw [lineTxns_general c (mt (congrArg BitVec.toNat) hx) (mt (congrArg BitVec.toNat) hy),
      plotAll_steep c a _ (x0 := x0) (x1 := x1) (y0 := y0) (y1 := y1) (by rwa [hax, hay])]
    simp only [toward_of_ne _ _ _ hx, toward_of_ne _ _ _ hy, rnd_eq, hax, hay]
    rfl

/-! ### Circles and discs (R235 to R244) -/

theorem circleTxns_ne_nil (c : Config) (a : Operands) : circleTxns c a ≠ [] :=
  plotAll_ne_nil c a (List.ne_nil_of_length_pos (by rw [circlePoints_length]; omega))

/-- Settles O21: the list's points are R239's eight for each `x`, with the library's square root for the model's. -/
theorem drawCircleStarts : Obligations.DrawCircleStarts := by
  intro s h hready a cx cy r hx hy hxe hye
  rw [exec_drawCircle h hready ((circleOk_iff a).mpr ⟨hx, hy, hxe, hye⟩) (circleTxns_ne_nil s.cfg a)]
  simp only [circleTxns, plotAll, circlePoints, octantPairs, octantPoints, octantBound_eq_sqrt, chord_eq_sqrt, List.flatMap_map,
    List.flatMap_assoc, List.flatMap_cons, List.flatMap_nil, List.append_nil, List.append_assoc]
  rfl

/-- A column of the disc around row `cy`, `y` up and down (R243). -/
theorem rect_disc_column (c : Config) (a : Operands) (v : Nat) {cy y : Nat} (h : y ≤ cy) :
    rect c a v (cy - y) v (cy + y) = openRect c a v (cy - y) v (cy + y) ++ fill c a.color (2 * y + 1) := by
  rw [rect_column, show cy + y - (cy - y) = 2 * y by omega]

/-- R243's loop, where the disc does not reach above row 0. -/
theorem discTxns_eq_loop (c : Config) {a : Operands} (h : a.radius ≤ a.y0.toNat) : discTxns c a =
    (List.range a.radius).flatMap fun x =>
      let y := Nat.sqrt (a.radius * a.radius - x * x)
      let column (v : Nat) : List Txn :=
        openRect c a v (a.y0.toNat - y) v (a.y0.toNat + y) ++ fill c a.color (2 * y + 1)
      column (a.x0.toNat + x) ++ column (a.x0.toNat - x) := by
  rw [discTxns, discColumns, List.flatMap_assoc]
  refine List.flatMap_congr fun x _ => ?_
  have hy : chord a.radius x ≤ a.y0.toNat := (chord_le a.radius x).trans h
  simp only [List.flatMap_cons, List.flatMap_nil, List.append_nil, rect_disc_column c a _ hy, ← chord_eq_sqrt]

theorem discTxns_eq_nil_iff (c : Config) (a : Operands) : discTxns c a = [] ↔ a.radius = 0 := by
  rw [discTxns, discColumns, List.flatMap_assoc, List.flatMap_eq_nil_iff]
  constructor
  · intro hnil
    by_contra hne
    exact rect_ne_nil c a _ _ _ _ (List.append_eq_nil_iff.mp (hnil 0 (List.mem_range.mpr (Nat.pos_of_ne_zero hne)))).1
  · intro hzero x hx
    rw [hzero] at hx
    exact absurd hx List.not_mem_nil

/-- Settles O22: the list is R243's loop, which is empty for radius 0 alone. -/
theorem fillCircleStarts : Obligations.FillCircleStarts := by
  intro s h hready a cx cy r column hx hy hxe hye
  have hchecks : circleOk a = true := (circleOk_iff a).mpr ⟨hx, hy, hxe, hye⟩
  refine ⟨fun hzero => ?_, fun hne => ?_⟩
  · exact exec_fillCircle_nothing h hready hchecks ((discTxns_eq_nil_iff s.cfg a).mpr hzero)
  · rw [exec_fillCircle h hready hchecks (mt (discTxns_eq_nil_iff s.cfg a).mp hne), discTxns_eq_loop s.cfg (a := a) hy]
    rfl

/-! ### Glyphs (R247 to R249) -/

/-- R249's loop over the font's bytes. -/
theorem glyphTxns_font_loop (c : Config) (a : Operands) (font ch : Byte) : glyphTxns c a (glyphColumns c font ch) =
    (List.range 5).flatMap fun col => (List.range 7).flatMap fun row =>
      if (fontColumn c font ch col).getLsbD row = true then plot c a (a.x0.toNat - col) (a.y0.toNat - row) else [] := by
  rw [glyphTxns_eq_loop]
  refine List.flatMap_congr fun col hcol => ?_
  have hbits : (glyphColumns c font ch)[col]?.getD 0 = fontColumn c font ch col :=
    columnAt_glyphColumns c font ch col (List.mem_range.mp hcol)
  rw [hbits]

theorem glyphTxns_eq_nil_iff (c : Config) (a : Operands) (font ch : Byte) : glyphTxns c a (glyphColumns c font ch) = [] ↔
    ∀ col < 5, ∀ row < 7, (fontColumn c font ch col).getLsbD row = false := by
  simp only [glyphTxns_font_loop, List.flatMap_eq_nil_iff, List.mem_range, ite_eq_right_iff, plot_ne_nil, imp_false,
    Bool.not_eq_true]

/-- Settles O23: the list is R249's loop over the font's bytes, empty exactly when no bit of the cell is set. -/
theorem drawGlyphStarts : Obligations.DrawGlyphStarts := by
  intro s ch h hready a x0 y0 bits hx hy hxe hye
  have hchecks : glyphOk a = true := (glyphOk_iff a).mpr ⟨hx, hy, hxe, hye⟩
  refine ⟨fun hblank => ?_, fun ⟨col, hcol, row, hrow, hbit⟩ => ?_⟩
  · exact exec_drawGlyph_nothing h hready hchecks ((glyphTxns_eq_nil_iff s.cfg a a.fontId ch).mpr hblank)
  · have hne : glyphTxns s.cfg a (glyphColumns s.cfg a.fontId ch) ≠ [] := by
      intro hnil
      have hclear : (bits col).getLsbD row = false := (glyphTxns_eq_nil_iff s.cfg a a.fontId ch).mp hnil col hcol row hrow
      exact nomatch hbit.symm.trans hclear
    rw [exec_drawGlyph h hready hchecks hne, glyphTxns_font_loop]
    rfl

end Sys2Proof.Machine
end

section
/-! PROOFS. Dropped host writes (O7), and the failure of a transaction: what it ends (O25) and that nothing later is sent (O27). -/

namespace Sys2Proof.Machine

/-! ### Dropped host writes (R274) -/

/-- 0x1F is END_STREAM's word (R123). -/
theorem presentCommand_endStream (s : State) : presentCommand 0x0000001F s = .next (takeEndStream s) :=
  presentCommand_of_decode (decode_encode (i := .endStream) rfl) s

/-- With a stream open, every word but END_STREAM's is dropped, legal or not (R272 step 2). -/
theorem presentCommand_streaming {w : Word} {s : State} (hw : w ≠ 0x0000001F) (hs : s.seq.stream ≠ .none) :
    presentCommand w s = .next (drop s) := by
  unfold presentCommand
  split
  next i hdec =>
    have hi : i ≠ .endStream := by
      rintro rfl
      exact hw (encode_of_decode hdec).symm
    obtain ⟨o, ho, -⟩ := exec_is_start i s hi
    rw [ho, start_streaming o s hs]
  next => exact congrArg _ (startIllegal_dropped (.inr hs))

theorem takeEndStream_no_stream {s : State} (hs : s.seq.stream = .none) : takeEndStream s = drop s := by
  rw [takeEndStream, if_pos hs, ite_self]

theorem takeDatum_no_stream (w : Word) {s : State} (hs : s.seq.stream = .none) : takeDatum w s = drop s := if_pos (.inr hs)

/-- Settles O7: a word presented to CMD, or a datum, is dropped in each of the five cases. -/
theorem droppedWritesSetOnlyOvr : Obligations.DroppedWritesSetOnlyOvr := by
  rintro s off w rest hin (⟨rfl, hp⟩ | ⟨rfl, hw, hs⟩ | ⟨rfl, rfl, hs⟩ | ⟨rfl, hp⟩ | ⟨rfl, hs⟩)
  · exact (step_command s w rest hin).trans (presentCommand_busy w (s.setInputs rest) hp)
  · exact (step_command s w rest hin).trans (presentCommand_streaming (s := s.setInputs rest) hw hs)
  · exact (step_command s _ rest hin).trans ((presentCommand_endStream _).trans
      (congrArg _ (takeEndStream_no_stream (s := s.setInputs rest) hs)))
  · exact (step_datum s w rest hin).trans (congrArg _ (takeDatum_busy w (s.setInputs rest) hp))
  · exact (step_datum s w rest hin).trans (congrArg _ (takeDatum_no_stream w (s := s.setInputs rest) hs))

/-! ### A failed transaction (R276) -/

/-- The state the failure `a` of the transaction `t` leaves: what it delivered recorded (R86), and the operation ended with `a`'s code. -/
def State.failedBy (s : State) (t : Txn) (a : Answer) (rest : List Input) : State :=
  { s with
    inputs := rest
    history := s.history ++ [⟨t, a.response, delivery t a⟩]
    err := a.response.errCode
    seq := { s.seq with todo := [], buf := [], stream := .none, phase := .idle } }

theorem step_fail {s : State} {t : Txn} {more : List Txn} {a : Answer} {rest : List Input} (hp : s.seq.phase = .run)
    (ht : s.seq.todo = t :: more) (hin : s.inputs = .answer a :: rest) (hallowed : responseAllowed s.cfg t a.response = true)
    (hfail : a.response ≠ .ok) : step s = .next (s.failedBy t a rest) := by
  rw [step_answer s t more a rest hp ht hin hallowed, answered_fail _ _ _ _ hfail]
  rfl

/-- R271's codes are those of the three failures. -/
theorem failure_code_iff (r : Response) (code : ErrCode) :
    ((r = .failTransport ∧ code = .transport) ∨ (r = .failDc ∧ code = .dcPin) ∨ (r = .failPin ∧ code = .resetPin)) ↔
      r ≠ .ok ∧ r.errCode = code := by
  cases r <;> simp [Response.errCode, eq_comm]

/-- Settles O25: the failure leaves no stream, so a datum or END_STREAM after it is dropped as O7 says. -/
theorem failureEndsTheOperation : Obligations.FailureEndsTheOperation := by
  intro s t more a rest code hp ht hin hallowed hcode
  obtain ⟨hfail, rfl⟩ := (failure_code_iff _ _).mp hcode
  refine ⟨s.failedBy t a rest, step_fail hp ht hin hallowed hfail, rfl, fun w later => ?_, fun later => ?_⟩
  · exact droppedWritesSetOnlyOvr { s.failedBy t a rest with inputs := .hostWrite 4 0x24 w :: later } 0x24 w later rfl
      (.inr (.inr (.inr (.inr ⟨rfl, rfl⟩))))
  · exact droppedWritesSetOnlyOvr { s.failedBy t a rest with inputs := .hostWrite 4 0x00 0x0000001F :: later } 0x00 _ later rfl
      (.inr (.inr (.inl ⟨rfl, rfl, rfl⟩)))

/-! ### The first failure of an operation (R276, R280(b)) -/

/-- Settles O27, by induction on the transactions answered OK: each leaves the operation running, since the one to fail is still owed. -/
theorem firstFailureCutsTheOperation : Obligations.FirstFailureCutsTheOperation := by
  intro s sent
  induction sent generalizing s with
  | nil =>
    intro t unsent answers f rest hp ht hlen _ hallowed hfail hin
    obtain rfl : answers = [] := List.length_eq_zero_iff.mp hlen
    rw [List.length_nil, runSteps_next _ _ _ (step_fail hp ht hin hallowed hfail), runSteps_zero, okEvents, List.map_nil,
      List.append_nil]
    rfl
  | cons x sent ih =>
    intro t unsent answers f rest hp ht hlen hok hallowed hfail hin
    obtain ⟨a, answers, rfl⟩ := List.exists_cons_of_length_eq_add_one hlen
    have hrest : ∀ b ∈ answers, b.response = .ok := fun b hb => hok b (.tail _ hb)
    have howed : sent ++ t :: unsent ≠ [] := by simp
    have hstep : step s = .next (s.sentOk x (sent ++ t :: unsent) (answerInputs answers ++ .answer f :: rest)) :=
      step_ok_more hp hin (hok a (.head _)) ht howed
    rw [List.length_cons, runSteps_next _ _ _ hstep,
      ih (s.sentOk x (sent ++ t :: unsent) _) t unsent answers f rest hp rfl (Nat.succ.inj hlen) hrest hallowed hfail rfl,
      okEvents_cons, List.append_cons s.history]
    rfl

end Sys2Proof.Machine
end
